-- ==== Sys2Proof/Word.lean ====
section
/-!
DEFINITION. The word types of the CODE-DMG core (spec/00_scope.md R8, R10): a byte, a 16-bit word, a 2-bit shade.
-/

namespace Sys2Proof

/-- A byte: every bus access, every general register (R8, R10). -/
abbrev Byte := BitVec 8

/-- A 16-bit word: PC, SP, register pairs and addresses (R8, R10). -/
abbrev Word := BitVec 16

/-- A 2-bit shade or colour index (R14, R43). -/
abbrev Shade := BitVec 2

end Sys2Proof
end

