-- ==== Sys2Proof/Machine/Bits.lean ====
section
/-!
DEFINITION. Bit-field, sign-extension and byte-order helpers: the pseudocode primitives of spec/00_scope.md R11.
-/

namespace Sys2Proof.Machine

/-- `lo(w) = w[7:0]` (R11). -/
def lo (w : Word) : Byte := w.setWidth 8

/-- `hi(w) = w[15:8]` (R11). -/
def hi (w : Word) : Byte := w.extractLsb' 8 8

/-- `w16(h, l) = 256*h + l` (R11); the first-named half is the high byte (spec/10_state.md R21). -/
def w16 (h l : Byte) : Word := h ++ l

/-- `sext_8(e) mod 2^16` (R11, spec/42_alu16.md R260). -/
def sext8 (e : Byte) : Word := e.signExtend 16

/-- `v[i]` as a Bool (R10); `bit(v, i)` of spec/60_exceptions.md. -/
def bitOf (v : Byte) (i : Nat) : Bool := v.getLsbD i

/-- `0xFF00 + a8`: the high page of spec/40_load.md R202. -/
def highPage (a8 : Byte) : Word := w16 0xFF a8

end Sys2Proof.Machine
end

