-- ==== Sys2Proof/Config.lean ====
section
/-!
DEFINITION. The named parameters a model takes (spec/00_scope.md R9), each with the spec's default. They are fixed for
the machine: `State.config` holds them and no step changes them (notes/assumptions/2.md). The remaining parameters of R9
are inputs: Cartridge, BootRom and SaveRam of `powerOn`, Buttons of `State.inputs`, DisplayPalette of `display`.
-/

namespace Sys2Proof

/-- The two dispatch tables of spec/30_encoding.md: the primary one, and the extended one behind 0xCB. -/
inductive Table where
  | primary
  | extended
  deriving DecidableEq, Repr

/-- `SpOffsetFlags` (R9, D12): the bits the flags of ADD SP,e8 and LD HL,SP+e8 come from. -/
inductive SpOffsetFlags where
  | lowByte
  | bits11And15
  deriving DecidableEq, Repr

/-- `StopBehaviour` (R9, D11). -/
inductive StopBehaviour where
  | nop2
  | fatal
  deriving DecidableEq, Repr

/-- The parameters of R9 that a step reads, and `InitialRam`, which a reset reads.
`notImplemented` lists the opcodes with `Implemented = false` (R152, D3); `initialRam` lists the bytes of `InitialRam`
that are not zero, by bus address (D32). -/
structure Config where
  andSetsH : Bool := false
  spOffsetFlags : SpOffsetFlags := .lowByte
  stopBehaviour : StopBehaviour := .nop2
  echoRam : Bool := false
  notImplemented : List (Table × Byte) := []
  initialRam : List Host.Cell := []
  deriving DecidableEq, Repr

end Sys2Proof
end

