-- ==== Sys2Proof/Machine/Memory.lean ====
section
/-!
DEFINITION. The storage of the block as one canonical list of (key, byte) pairs: keys strictly rising, no entry equal to
what an unlisted key reads as. Keys 0x8000-0xFFFF are the bus's own arrays at their bus addresses (spec/20_memory.md R71);
the boot ROM, the cartridge RAM and the cartridge ROM image, which the bus shows through windows, have key ranges of
their own above (notes/assumptions/10.md).
-/

namespace Sys2Proof.Machine

/-- Storage: see the file's header for its keys. -/
abbrev Memory := List Host.Cell

/-- The bytes of the I/O fallback block that are not zero after the post-boot reset (spec/10_state.md R36, R46). -/
def publishedIo : List Host.Cell :=
  [(0xFF02, 0x7E), (0xFF07, 0xF8), (0xFF10, 0x80), (0xFF11, 0xBF), (0xFF12, 0xF3), (0xFF13, 0xFF), (0xFF14, 0xBF),
   (0xFF16, 0x3F), (0xFF18, 0xFF), (0xFF19, 0xBF), (0xFF1A, 0x7F), (0xFF1B, 0xFF), (0xFF1C, 0x9F)] ++
  [(0xFF1D, 0xFF), (0xFF1E, 0xBF), (0xFF20, 0xFF), (0xFF23, 0xBF), (0xFF24, 0x77), (0xFF25, 0xF3), (0xFF26, 0xF1)]

/-- The first byte listed under `k`, or `d`. -/
def Memory.find (d : Byte) : Memory → Nat → Byte
  | [], _ => d
  | c :: m, k => if c.1 = k then c.2 else Memory.find d m k

/-- What an unlisted key reads as: its byte after the post-boot reset with `InitialRam` all zero, that is the published
I/O bytes and zero everywhere else (spec/10_state.md R46, R47, D30, D32). -/
def Memory.unlisted (k : Nat) : Byte := if k < 0xFF00 then 0 else Memory.find 0 publishedIo k

/-- Read one byte. -/
def Memory.read : Memory → Nat → Byte
  | [], k => Memory.unlisted k
  | c :: m, k => if c.1 = k then c.2 else Memory.read m k

/-- Remove the entry of a key. -/
def Memory.erase (m : Memory) (k : Nat) : Memory := m.filter (fun c => c.1 != k)

/-- Put an entry in front of the first larger key. -/
def Memory.insert (k : Nat) (v : Byte) : Memory → Memory
  | [] => [(k, v)]
  | c :: m => if k < c.1 then (k, v) :: c :: m else c :: Memory.insert k v m

/-- Write one byte, keeping the canonical form: writing what an unlisted key reads as removes the entry. -/
def Memory.write (m : Memory) (k : Nat) (v : Byte) : Memory :=
  if v = Memory.unlisted k then m.erase k else Memory.insert k v (m.erase k)

/-- The canonical form. -/
abbrev Memory.wf (m : Memory) : Prop :=
  m.Pairwise (fun c d => c.1 < d.1) ∧ ∀ c ∈ m, c.2 ≠ Memory.unlisted c.1

/-- The key of byte `i` of the boot ROM (spec/10_state.md R47: 256 bytes). -/
def bootKey (i : Nat) : Nat := 0x10000 + i

/-- The key of byte `off` of the cartridge RAM (spec/20_memory.md R113: at most 128 KiB). -/
def ramKey (off : Nat) : Nat := 0x20000 + off

/-- The key of byte `off` of the cartridge ROM image (spec/20_memory.md R112). -/
def romKey (off : Nat) : Nat := 0x100000 + off

/-- Write a run of bytes at consecutive keys. -/
def Memory.writeRun (m : Memory) (key : Nat → Nat) : Nat → List Byte → Memory
  | _, [] => m
  | i, v :: vs => Memory.writeRun (m.write (key i) v) key (i + 1) vs

end Sys2Proof.Machine
end

