-- ==== Sys2Proof/Machine/Parts.lean ====
section
/-!
DEFINITION. The parts of the block's state, by owner (spec/10_state.md): the CPU core, the bus with its named registers,
storage and bank controller, the PPU, and the host's button input. Plain data throughout.
-/

namespace Sys2Proof.Machine

/-- The four flags, the decoded form of F (R24). -/
structure Flags where
  z : Bool
  n : Bool
  h : Bool
  c : Bool
  deriving DecidableEq, Repr

/-- The CPU core (R20-R30). `fatalAddr` is the address of the fatal outcome (spec/60_exceptions.md R362). `cost` is the
value `CPU.Step` returns (R350, spec/00_scope.md R11 `cycles <- n`), the model's own field (notes/assumptions/6.md). -/
structure Cpu where
  a : Byte
  b : Byte
  c : Byte
  d : Byte
  e : Byte
  h : Byte
  l : Byte
  f : Flags
  sp : Word
  pc : Word
  ime : Bool
  halted : Bool
  fatal : Bool
  fatalAddr : Word
  cost : Nat
  deriving DecidableEq, Repr

/-- The bank controller families (spec/20_memory.md R111); `romOnly` is the family None. -/
inductive Family where
  | romOnly
  | mbc1
  | mbc3
  | mbc5
  deriving DecidableEq, Repr

/-- The bank controller (R49). The bytes of `rom` and `ram` are in `Bus.mem` under `romKey` and `ramKey`; `romSize` is
the length of the image as loaded. -/
structure Cart where
  family : Family
  battery : Bool
  romSize : Nat
  romBanks : Nat
  ramSize : Nat
  ramBanks : Nat
  ramEnabled : Bool
  romBank : BitVec 9
  ramBank : BitVec 4
  deriving DecidableEq, Repr

/-- The bus: the named registers (R31-R45), the joypad byte the P1 read combines (R52), the boot latch (R48), storage
(R46, R47) and the bank controller (R49). `sel` is the stored selection of P1 (R34); `stat` holds bits 6:0 of STAT (R38).
Each named register has this one home (spec/20_memory.md R84); the read-back byte of BOOT is in `mem` (R99). -/
structure Bus where
  sel : BitVec 2
  joy : Byte
  div : Byte
  ifr : Byte
  ie : Byte
  lcdc : Byte
  stat : BitVec 7
  scy : Byte
  scx : Byte
  ly : Byte
  lyc : Byte
  dma : Byte
  bgp : Byte
  obp0 : Byte
  obp1 : Byte
  wy : Byte
  wx : Byte
  bootLatch : Bool
  mem : Memory
  cart : Cart
  deriving DecidableEq, Repr

/-- The four states of the PPU's timing machine (R50). -/
inductive Mode where
  | oamSearch
  | transfer
  | hblank
  | vblank
  deriving DecidableEq, Repr

/-- The PPU (R50); LY is `Bus.ly`. `frame` holds 144 rows of 160 shades, row `ly` first to last. -/
structure Ppu where
  mode : Mode
  dots : Nat
  windowLine : Byte
  vblankTriggered : Bool
  frame : List (List Shade)
  frameReady : Bool
  deriving DecidableEq, Repr

/-- The eight buttons of a frame, true = pressed (spec/60_exceptions.md R415, parameter `Buttons`). -/
structure Buttons where
  right : Bool := false
  left : Bool := false
  up : Bool := false
  down : Bool := false
  a : Bool := false
  b : Bool := false
  select : Bool := false
  start : Bool := false
  deriving DecidableEq, Repr

end Sys2Proof.Machine
end

