-- ==== Sys2Proof/Machine/Cartridge.lean ====
section
/-!
DEFINITION. The cartridge as it is loaded: the image, the header decode (spec/20_memory.md R110-R114), and the bank
controller's state after a load (spec/10_state.md R49).
-/

namespace Sys2Proof.Machine

/-- A byte array written sparsely: `size` bytes, of which those not listed by offset in `cells` are zero. -/
structure Image where
  size : Nat
  cells : List Host.Cell
  deriving DecidableEq, Repr

/-- An image from all its bytes. -/
def Image.ofBytes (bs : List Byte) : Image := ⟨bs.length, (List.range bs.length).zip bs⟩

/-- Byte `off` of the image; a byte past its end reads 0x00, which is how a missing header byte reads (R110, D22). -/
def Image.byte (img : Image) (off : Nat) : Byte := if off < img.size then Memory.find 0 img.cells off else 0

/-- The zero-filled 32 KiB cartridge of a missing ROM file (spec/70_reset_and_hazards.md R453, D47). -/
def Image.blank : Image := ⟨0x8000, []⟩

/-- Controller-type decode: the family and whether it declares persistent RAM (R111, R114). -/
def familyOf (code : Byte) : Family × Bool :=
  match code.toNat with
  | 0x01 => (.mbc1, false)
  | 0x02 => (.mbc1, false)
  | 0x03 => (.mbc1, true)
  | 0x0F => (.mbc3, true)
  | 0x10 => (.mbc3, true)
  | 0x11 => (.mbc3, false)
  | 0x12 => (.mbc3, false)
  | 0x13 => (.mbc3, true)
  | 0x19 => (.mbc5, false)
  | 0x1A => (.mbc5, false)
  | 0x1B => (.mbc5, true)
  | 0x1C => (.mbc5, false)
  | 0x1D => (.mbc5, false)
  | 0x1E => (.mbc5, true)
  | _ => (.romOnly, false)

/-- The number of 16 KiB ROM banks of a ROM-size code of at most 8; a larger code is refused at load (R112, D22). -/
def romBanksOf (code : Byte) : Option Nat := if code.toNat ≤ 8 then some (2 * 2 ^ code.toNat) else none

/-- RAM-size decode: bytes and 8 KiB banks (R113). -/
def ramSizeOf (code : Byte) : Nat × Nat :=
  match code.toNat with
  | 0x01 => (0x800, 1)
  | 0x02 => (0x2000, 1)
  | 0x03 => (0x8000, 4)
  | 0x04 => (0x20000, 16)
  | 0x05 => (0x10000, 8)
  | _ => (0, 0)

/-- The bank controller right after an image is loaded, or nothing where the load is refused (R49, R110-R114). -/
def Cart.load (img : Image) : Option Cart :=
  let fb := familyOf (img.byte 0x0147)
  let ram := ramSizeOf (img.byte 0x0149)
  (romBanksOf (img.byte 0x0148)).map fun banks =>
    { family := fb.1, battery := fb.2, romSize := img.size, romBanks := banks, ramSize := ram.1, ramBanks := ram.2,
      ramEnabled := false, romBank := 1, ramBank := 0 }

/-- The bank controller of the blank cartridge: family None, 2 ROM banks, no RAM (spec/70_reset_and_hazards.md R453). -/
def Cart.blank : Cart :=
  { family := .romOnly, battery := false, romSize := 0x8000, romBanks := 2, ramSize := 0, ramBanks := 0,
    ramEnabled := false, romBank := 1, ramBank := 0 }

/-- Put the bytes of an image under its keys; of two entries for one offset the first counts, as in `Image.byte`. -/
def Memory.loadRom (m : Memory) (img : Image) : Memory :=
  img.cells.foldr (fun c m => if c.1 < img.size then m.write (romKey c.1) c.2 else m) m

/-- The save file is loaded for a battery family with RAM: the first `min(ramSize, |save|)` bytes (R128, D44). -/
def Memory.loadSave (m : Memory) (cart : Cart) (save : Option (List Byte)) : Memory :=
  match save with
  | some bs => if cart.battery = true ∧ cart.ramSize > 0 then m.writeRun ramKey 0 (bs.take cart.ramSize) else m
  | none => m

end Sys2Proof.Machine
end

