-- ==== Sys2Proof/Machine/ResetValues.lean ====
section
/-!
DEFINITION. The reset values of every part of the state: the post-boot reset and the boot-ROM reset
(spec/70_reset_and_hazards.md R450, R451; spec/10_state.md R23-R53).
-/

namespace Sys2Proof.Machine

/-- The CPU after the post-boot reset (R23, R26-R30). `fatalAddr` and `cost` have no value in the spec: 0
(notes/assumptions/6.md and 7.md). -/
def Cpu.postBoot : Cpu :=
  { a := 0x01, b := 0x00, c := 0x13, d := 0x00, e := 0xD8, h := 0x01, l := 0x4D,
    f := { z := true, n := false, h := true, c := true }, sp := 0xFFFE, pc := 0x0100,
    ime := false, halted := false, fatal := false, fatalAddr := 0, cost := 0 }

/-- The CPU after the boot-ROM reset (R451). -/
def Cpu.bootRom : Cpu :=
  { a := 0, b := 0, c := 0, d := 0, e := 0, h := 0, l := 0,
    f := { z := false, n := false, h := false, c := false }, sp := 0, pc := 0,
    ime := false, halted := false, fatal := false, fatalAddr := 0, cost := 0 }

/-- The bus after the post-boot reset (R33, R34, R38, R48, R52), over given storage and bank controller. -/
def Bus.postBoot (mem : Memory) (cart : Cart) : Bus :=
  { sel := 0, joy := 0xFF, div := 0xAB, ifr := 0xE1, ie := 0x00, lcdc := 0x91, stat := 0x06, scy := 0, scx := 0,
    ly := 0, lyc := 0, dma := 0xFF, bgp := 0xFC, obp0 := 0xFF, obp1 := 0xFF, wy := 0, wx := 0,
    bootLatch := false, mem := mem, cart := cart }

/-- The bus after the boot-ROM reset (R451). -/
def Bus.bootRom (mem : Memory) (cart : Cart) : Bus :=
  { sel := 0, joy := 0xFF, div := 0, ifr := 0, ie := 0, lcdc := 0, stat := 0, scy := 0, scx := 0,
    ly := 0, lyc := 0, dma := 0, bgp := 0, obp0 := 0, obp1 := 0, wy := 0, wx := 0,
    bootLatch := true, mem := mem, cart := cart }

/-- The frame buffer, all shade 0: 144 rows of 160 (R50, spec/60_exceptions.md R400). -/
def blankFrame : List (List Shade) := List.replicate 144 (List.replicate 160 0)

/-- The PPU after both resets (R50, R451). -/
def Ppu.initial : Ppu :=
  { mode := .oamSearch, dots := 0, windowLine := 0, vblankTriggered := false, frame := blankFrame, frameReady := false }

/-- Whether a bus address is one of a RAM array: work RAM, video RAM, OAM or high RAM (spec/20_memory.md R71). -/
def isRamArray (k : Nat) : Bool :=
  (0x8000 ≤ k && k < 0xA000) || (0xC000 ≤ k && k < 0xE000) || (0xFE00 ≤ k && k < 0xFEA0) || (0xFF80 ≤ k && k < 0xFFFF)

/-- Whether a bus address is in the I/O fallback block (spec/10_state.md R46). -/
def isIoBlock (k : Nat) : Bool := 0xFF00 ≤ k && k < 0xFF80

/-- `InitialRam` in the RAM arrays, over the published I/O bytes: the storage of the post-boot reset (R46, R47, D32). -/
def Memory.postBoot (initialRam : List Host.Cell) : Memory :=
  initialRam.foldr (fun c m => if isRamArray c.1 then m.write c.1 c.2 else m) []

/-- `InitialRam` in the RAM arrays and the I/O fallback block: the storage of the boot-ROM reset (R451, D32). -/
def Memory.bootRom (initialRam : List Host.Cell) : Memory :=
  initialRam.foldr (fun c m => if isRamArray c.1 || isIoBlock c.1 then m.write c.1 c.2 else m)
    (publishedIo.foldr (fun c m => m.write c.1 0) [])

end Sys2Proof.Machine
end

