-- ==== Sys2Proof/Machine/State.lean ====
section
/-!
DEFINITION. The whole state of the block, its faults and refusals, and the state after reset.
-/

namespace Sys2Proof.Machine

/-- Everything the spec gives the block (INVENTORY.md, State). `config` is fixed (spec/00_scope.md R9). `divAcc` is the
timer's accumulator (spec/10_state.md R51), `frameCycles` the driver's count (R53), and `inputs` the buttons of the frames
still to come, the head being the next frame's (spec/60_exceptions.md R415, notes/assumptions/4.md). -/
structure State where
  config : Config
  cpu : Cpu
  bus : Bus
  ppu : Ppu
  divAcc : Nat
  frameCycles : Nat
  inputs : List Buttons
  deriving DecidableEq, Repr

/-- Why a step stops. -/
inductive Fault where
  /-- The fatal decode outcome `Fatal(a)` of spec/60_exceptions.md R362. Raised by `cpuStep`, for every step taken from a
  state whose fatal mark is set; the step that sets the mark answers a next state (notes/assumptions/5.md). Safe: the
  block is stuck there by the spec. -/
  | fatalDecode (a : Word)
  deriving DecidableEq, Repr

/-- Why an instruction has no meaning. -/
inductive Refusal where
  /-- An instruction of the table that has no meaning yet. Raised by an arm of `exec` only; no arm raises it now. Safe. -/
  | notModelled (mnemonic : String)
  deriving DecidableEq, Repr

/-- The answer of a meaning and of a step. -/
abbrev Result := Host.Outcome State Fault Refusal

/-- The machine right after reset: the post-boot reset (spec/70_reset_and_hazards.md R450) with every parameter at its
default, no boot ROM, and the blank cartridge of a missing file (R453). -/
def State.reset : State :=
  { config := {}, cpu := Cpu.postBoot, bus := Bus.postBoot [] Cart.blank, ppu := Ppu.initial,
    divAcc := 0, frameCycles := 0, inputs := [] }

end Sys2Proof.Machine
end

