-- ==== Sys2Proof/Machine/Bus.lean ====
section
/-!
DEFINITION. The bus: `Read` and `Write` in the decode order of spec/20_memory.md R80 and R81, the named registers
(R92-R105), OAM DMA (R97) and the bank controller (R115-R127). `echo` is the parameter `EchoRam` (R86).
-/

namespace Sys2Proof.Machine

/-- The named registers, exactly those of spec/10_state.md R33 (R105). -/
inductive NamedReg where
  | p1 | div | ifr | lcdc | stat | scy | scx | ly | lyc | dma | bgp | obp0 | obp1 | wy | wx | boot | ie
  deriving DecidableEq, Repr

/-- The named register at a bus address (spec/10_state.md R33). -/
def namedRegAt (n : Nat) : Option NamedReg :=
  if n < 0xFF00 then none
  else match n - 0xFF00 with
    | 0x00 => some .p1
    | 0x04 => some .div
    | 0x0F => some .ifr
    | 0x40 => some .lcdc
    | 0x41 => some .stat
    | 0x42 => some .scy
    | 0x43 => some .scx
    | 0x44 => some .ly
    | 0x45 => some .lyc
    | 0x46 => some .dma
    | 0x47 => some .bgp
    | 0x48 => some .obp0
    | 0x49 => some .obp1
    | 0x4A => some .wy
    | 0x4B => some .wx
    | 0x50 => some .boot
    | 0xFF => some .ie
    | _ => none

/-- The bank-controlled range (R83). -/
def isBankRange (n : Nat) : Bool := n < 0x8000 || (0xA000 ≤ n && n < 0xC000)

/-- Where the plain region tables keep the byte at a bus address (R71, R85, R86): the key, or nothing for an address that
no region claims. With `EchoRam` the range 0xE000-0xFDFF is work RAM again. -/
def regionKey (echo : Bool) (n : Nat) : Option Nat :=
  if 0x8000 ≤ n ∧ n < 0xA000 then some n
  else if 0xC000 ≤ n ∧ n < 0xE000 then some n
  else if 0xE000 ≤ n ∧ n < 0xFE00 then (if echo then some (n - 0x2000) else none)
  else if 0xFE00 ≤ n ∧ n < 0xFEA0 then some n
  else if 0xFF00 ≤ n ∧ n < 0x10000 then some n
  else none

/-! ### The bank controller -/

/-- The bank shown at 0x4000-0x7FFF: the bank register reduced modulo the bank count (R115, R117, R119). -/
def Cart.shownBank (c : Cart) : Nat :=
  match c.family with
  | .romOnly => 1
  | _ => c.romBank.toNat % c.romBanks

/-- The offset into the ROM image of a bus address below 0x8000 (R118, R119). -/
def Cart.romOffset (c : Cart) (n : Nat) : Nat := if n < 0x4000 then n else c.shownBank * 0x4000 + (n - 0x4000)

/-- The offset into the cartridge RAM of a bus address in 0xA000-0xBFFF, or nothing where the window is closed or the
offset lies past the array (R115, R117, R120, R121). -/
def Cart.ramOffset (c : Cart) (n : Nat) : Option Nat :=
  if c.family = .romOnly ∨ c.ramEnabled = false ∨ c.ramBanks = 0 then none
  else
    let off := (c.ramBank.toNat % c.ramBanks) * 0x2000 + (n - 0xA000)
    if off < c.ramSize then some off else none

/-- `MBC.Read` (R118-R120). -/
def Bus.mbcRead (b : Bus) (n : Nat) : Byte :=
  if n < 0x8000 then
    if b.cart.romOffset n < b.cart.romSize then b.mem.read (romKey (b.cart.romOffset n)) else 0xFF
  else
    match b.cart.ramOffset n with
    | some off => b.mem.read (ramKey off)
    | none => 0xFF

/-- A control write to 0x0000-0x7FFF (R115, R122-R127). -/
def Cart.control (c : Cart) (n : Nat) (v : Byte) : Cart :=
  match c.family with
  | .romOnly => c
  | .mbc1 =>
    if n < 0x2000 then { c with ramEnabled := (v &&& 0x0F) = 0x0A }
    else if n < 0x4000 then
      { c with romBank := if v &&& 0x1F = 0 then 1 else (v &&& 0x1F).setWidth 9 }
    else if n < 0x6000 then { c with ramBank := (v &&& 0x03).setWidth 4 }
    else c
  | .mbc3 =>
    if n < 0x2000 then { c with ramEnabled := (v &&& 0x0F) = 0x0A }
    else if n < 0x4000 then
      { c with romBank := if v &&& 0x7F = 0 then 1 else (v &&& 0x7F).setWidth 9 }
    else if n < 0x6000 then { c with ramBank := (v &&& 0x03).setWidth 4 }
    else c
  | .mbc5 =>
    if n < 0x2000 then { c with ramEnabled := (v &&& 0x0F) = 0x0A }
    else if n < 0x3000 then { c with romBank := (c.romBank &&& 0x100) ||| v.setWidth 9 }
    else if n < 0x4000 then { c with romBank := (c.romBank &&& 0x0FF) ||| ((v &&& 0x01).setWidth 9 <<< 8) }
    else if n < 0x6000 then { c with ramBank := (v &&& 0x0F).setWidth 4 }
    else c

/-- `MBC.Write` (R121-R127). -/
def Bus.mbcWrite (b : Bus) (n : Nat) (v : Byte) : Bus :=
  if n < 0x8000 then { b with cart := b.cart.control n v }
  else
    match b.cart.ramOffset n with
    | some off => { b with mem := b.mem.write (ramKey off) v }
    | none => b

/-! ### Reading -/

/-- The P1 read: the selected nibbles of `joy`, ANDed, under the select bits (R92). -/
def Bus.readP1 (b : Bus) : Byte :=
  let n : BitVec 4 := 0xF
  let n := if b.sel.getLsbD 1 then n else n &&& b.joy.extractLsb' 4 4
  let n := if b.sel.getLsbD 0 then n else n &&& b.joy.extractLsb' 0 4
  (3#2 ++ b.sel) ++ n

/-- `NamedRead` (R92-R104). -/
def Bus.namedRead (b : Bus) (r : NamedReg) : Byte :=
  match r with
  | .p1 => b.readP1
  | .div => b.div
  | .ifr => b.ifr
  | .lcdc => b.lcdc
  | .stat => 1#1 ++ b.stat
  | .scy => b.scy
  | .scx => b.scx
  | .ly => b.ly
  | .lyc => b.lyc
  | .dma => b.dma
  | .bgp => b.bgp
  | .obp0 => b.obp0
  | .obp1 => b.obp1
  | .wy => b.wy
  | .wx => b.wx
  | .boot => b.mem.read 0xFF50
  | .ie => b.ie

/-- `Read(a)` (R80, R82, R86). -/
def Bus.read (echo : Bool) (b : Bus) (a : Word) : Byte :=
  if b.bootLatch = true ∧ a.toNat < 0x100 then b.mem.read (bootKey a.toNat)
  else if isBankRange a.toNat then b.mbcRead a.toNat
  else match namedRegAt a.toNat with
    | some r => b.namedRead r
    | none =>
      match regionKey echo a.toNat with
      | some k => b.mem.read k
      | none => 0xFF

/-! ### Writing -/

/-- `NamedWrite` but for the copy that a write to DMA starts (R92-R104). -/
def Bus.namedStore (b : Bus) (r : NamedReg) (v : Byte) : Bus :=
  match r with
  | .p1 => { b with sel := v.extractLsb' 4 2 }
  | .div => { b with div := 0 }
  | .ifr => { b with ifr := v }
  | .lcdc => if bitOf v 7 then { b with lcdc := v } else { b with lcdc := v, ly := 0 }
  | .stat => { b with stat := v.extractLsb' 3 4 ++ b.stat.extractLsb' 0 3 }
  | .scy => { b with scy := v }
  | .scx => { b with scx := v }
  | .ly => b
  | .lyc => { b with lyc := v }
  | .dma => { b with dma := v }
  | .bgp => { b with bgp := v }
  | .obp0 => { b with obp0 := v }
  | .obp1 => { b with obp1 := v }
  | .wy => { b with wy := v }
  | .wx => { b with wx := v }
  | .boot => { b with bootLatch := false, mem := b.mem.write 0xFF50 v }
  | .ie => { b with ie := v }

/-- `Write(a, v)` (R81, R87, R90) without the copy of R97. -/
def Bus.store (echo : Bool) (b : Bus) (a : Word) (v : Byte) : Bus :=
  if isBankRange a.toNat then b.mbcWrite a.toNat v
  else match namedRegAt a.toNat with
    | some r => b.namedStore r v
    | none =>
      match regionKey echo a.toNat with
      | some k => { b with mem := b.mem.write k v }
      | none => b

/-- Copies `i, i+1, …` of OAM DMA, `n` of them, each a `Read` and then a `Write` (R97, R135). The writes go to OAM, so
none of them starts a copy of its own. -/
def Bus.dmaCopy (echo : Bool) (src : Word) : Nat → Nat → Bus → Bus
  | 0, _, b => b
  | n + 1, i, b =>
    Bus.dmaCopy echo src n (i + 1)
      (b.store echo (0xFE00 + BitVec.ofNat 16 i) (b.read echo (src + BitVec.ofNat 16 i)))

/-- `Write(a, v)` (R81): a write to 0xFF46 stores the register and then copies 160 bytes from `v << 8` to OAM (R97). -/
def Bus.write (echo : Bool) (b : Bus) (a : Word) (v : Byte) : Bus :=
  if a = 0xFF46 then (b.store echo a v).dmaCopy echo (w16 v 0) 160 0 else b.store echo a v

end Sys2Proof.Machine
end

