-- ==== Sys2Proof/Machine/Flags.lean ====
section
/-!
DEFINITION. Every result and flag computation of the instruction set: spec/41_alu8.md, spec/42_alu16.md, spec/43_bit.md.
Each function answers the result and the flags; what is written where stands in the families.
-/

namespace Sys2Proof.Machine

/-- The packed flag byte F: Z N H C in bits 7:4 and zeros below (spec/10_state.md R24). -/
def Flags.pack (f : Flags) : Byte :=
  ((((BitVec.ofBool f.z ++ BitVec.ofBool f.n) ++ BitVec.ofBool f.h) ++ BitVec.ofBool f.c) ++ 0#4)

/-- Writing F: bits 7:4 become Z N H C and bits 3:0 are discarded (R24). -/
def Flags.unpack (v : Byte) : Flags := { z := bitOf v 7, n := bitOf v 6, h := bitOf v 5, c := bitOf v 4 }

/-- The condition field (spec/44_control.md R300). -/
def Flags.holds (f : Flags) : Cond → Bool
  | .nz => !f.z
  | .z => f.z
  | .nc => !f.c
  | .c => f.c

/-! ### 8-bit addition and subtraction -/

/-- `add8(a, b, c)` (R211). -/
def add8 (a b : Byte) (c : Bool) : Byte × Flags :=
  let t := a.toNat + b.toNat + c.toNat
  let r := BitVec.ofNat 8 t
  (r, { z := r == 0, n := false, h := decide ((a &&& 0x0F).toNat + (b &&& 0x0F).toNat + c.toNat > 0x0F),
        c := decide (t > 0xFF) })

/-- `sub8(a, b, c)` (R212). -/
def sub8 (a b : Byte) (c : Bool) : Byte × Flags :=
  let t : Int := a.toNat - b.toNat - c.toNat
  let r := BitVec.ofInt 8 t
  (r, { z := r == 0, n := true,
        h := decide (((a &&& 0x0F).toNat : Int) - (b &&& 0x0F).toNat - c.toNat < 0), c := decide (t < 0) })

/-! ### Logic -/

/-- The result of a logic instruction with Z from it, N and C clear, and a given H (R226-R234). -/
def logic (r : Byte) (h : Bool) : Byte × Flags := (r, { z := r == 0, n := false, h := h, c := false })

/-- The eight ALU operations on A and a source byte: the new A and the flags (R210-R237). CP keeps A (R235). AND's H is the
parameter `AndSetsH` (R226, D13). -/
def aluResult (andSetsH : Bool) (op : AluOp) (a b : Byte) (f : Flags) : Byte × Flags :=
  match op with
  | .add => add8 a b false
  | .adc => add8 a b f.c
  | .sub => sub8 a b false
  | .sbc => sub8 a b f.c
  | .and => logic (a &&& b) andSetsH
  | .xor => logic (a ^^^ b) false
  | .or => logic (a ||| b) false
  | .cp => (a, (sub8 a b false).2)

/-! ### Increment and decrement, which leave C (R238-R241) -/

/-- INC of a byte. -/
def inc8 (v : Byte) (f : Flags) : Byte × Flags :=
  (v + 1, { z := v + 1 == 0, n := false, h := (v &&& 0x0F) == 0x0F, c := f.c })

/-- DEC of a byte. -/
def dec8 (v : Byte) (f : Flags) : Byte × Flags :=
  (v - 1, { z := v - 1 == 0, n := true, h := (v &&& 0x0F) == 0x00, c := f.c })

/-! ### Accumulator and flag operations -/

/-- DAA (R242). -/
def daa (a : Byte) (f : Flags) : Byte × Flags :=
  let high := if f.n then f.c else f.c || decide (a.toNat > 0x99)
  let low := if f.n then f.h else f.h || decide ((a &&& 0x0F).toNat > 0x09)
  let adj : Byte := (if high then 0x60 else 0) ||| (if low then 0x06 else 0)
  let r := if f.n then a - adj else a + adj
  (r, { z := r == 0, n := f.n, h := false, c := (adj &&& 0x60) != 0 })

/-- CPL (R243). -/
def cpl (a : Byte) (f : Flags) : Byte × Flags := (~~~a, { f with n := true, h := true })

/-- SCF (R244). -/
def scf (f : Flags) : Flags := { f with n := false, h := false, c := true }

/-- CCF (R245). -/
def ccf (f : Flags) : Flags := { f with n := false, h := false, c := !f.c }

/-! ### 16-bit arithmetic -/

/-- ADD HL,rr: the sum and the flags, with Z unchanged (R262). -/
def add16 (x y : Word) (f : Flags) : Word × Flags :=
  let t := x.toNat + y.toNat
  (BitVec.ofNat 16 t,
    { z := f.z, n := false, h := decide ((x &&& 0x0FFF).toNat + (y &&& 0x0FFF).toNat > 0x0FFF),
      c := decide (t > 0xFFFF) })

/-- `spAdd(sp, e8)` with Z and N clear: the shared core of ADD SP,e8 and LD HL,SP+e8 (R261, R265, spec/40_load.md R192). -/
def spAdd (rule : SpOffsetFlags) (sp : Word) (e8 : Byte) : Word × Flags :=
  let u := sext8 e8
  let hc : Bool × Bool :=
    match rule with
    | .lowByte =>
      (decide ((sp &&& 0x000F).toNat + (e8 &&& 0x0F).toNat > 0x000F),
        decide ((sp &&& 0x00FF).toNat + e8.toNat > 0x00FF))
    | .bits11And15 =>
      (decide ((sp &&& 0x0FFF).toNat + (u &&& 0x0FFF).toNat > 0x0FFF), decide (sp.toNat + u.toNat > 0xFFFF))
  (sp + u, { z := false, n := false, h := hc.1, c := hc.2 })

/-! ### Rotates, shifts and bits -/

/-- The rotates, shifts and SWAP: the result and the bit that goes to C (R270-R282). -/
def rotResult (op : RotOp) (v : Byte) (carry : Bool) : Byte × Bool :=
  match op with
  | .rlc => ((v <<< 1) ||| (BitVec.ofBool (bitOf v 7)).setWidth 8, bitOf v 7)
  | .rrc => ((v >>> 1) ||| ((BitVec.ofBool (bitOf v 0)).setWidth 8 <<< 7), bitOf v 0)
  | .rl => ((v <<< 1) ||| (BitVec.ofBool carry).setWidth 8, bitOf v 7)
  | .rr => ((v >>> 1) ||| ((BitVec.ofBool carry).setWidth 8 <<< 7), bitOf v 0)
  | .sla => (v <<< 1, bitOf v 7)
  | .sra => ((v >>> 1) ||| (v &&& 0x80), bitOf v 0)
  | .swap => (((v &&& 0x0F) <<< 4) ||| (v >>> 4), false)
  | .srl => (v >>> 1, bitOf v 0)

/-- The extended forms: Z from the result (R275-R282). -/
def rotExt (op : RotOp) (v : Byte) (f : Flags) : Byte × Flags :=
  let wc := rotResult op v f.c
  (wc.1, { z := wc.1 == 0, n := false, h := false, c := wc.2 })

/-- The accumulator forms, which clear Z (R270-R273). -/
def rotAcc (op : RotOp) (a : Byte) (f : Flags) : Byte × Flags :=
  let wc := rotResult op a f.c
  (wc.1, { z := false, n := false, h := false, c := wc.2 })

/-- BIT b: Z from the tested bit, C unchanged (R283). -/
def bitTest (b : BitIdx) (v : Byte) (f : Flags) : Flags :=
  { z := !bitOf v b.toNat, n := false, h := true, c := f.c }

/-- RES b (R284). -/
def resBit (b : BitIdx) (v : Byte) : Byte := v &&& ~~~((1 : Byte) <<< b.toNat)

/-- SET b (R285). -/
def setBit (b : BitIdx) (v : Byte) : Byte := v ||| ((1 : Byte) <<< b.toNat)

end Sys2Proof.Machine
end

