-- ==== Sys2Proof/Machine/Ops.lean ====
section
/-!
DEFINITION. The named operations over registers and memory that the meanings are built from: register and pair access
(spec/10_state.md R20-R27), the bus access (spec/00_scope.md R11), the stack (spec/40_load.md R200, R201), the fetch, taking
an interrupt (spec/60_exceptions.md R352) and returning from it (spec/44_control.md R310), and the fatal decode outcome
(spec/60_exceptions.md R362).
-/

namespace Sys2Proof.Machine

/-! ### Registers -/

/-- `x[r]` for an 8-bit register (R20). -/
def Cpu.reg (c : Cpu) : R8 → Byte
  | .a => c.a
  | .b => c.b
  | .c => c.c
  | .d => c.d
  | .e => c.e
  | .h => c.h
  | .l => c.l

/-- `x[r] <- v` for an 8-bit register (R20). -/
def Cpu.setReg (c : Cpu) : R8 → Byte → Cpu
  | .a, v => { c with a := v }
  | .b, v => { c with b := v }
  | .c, v => { c with c := v }
  | .d, v => { c with d := v }
  | .e, v => { c with e := v }
  | .h, v => { c with h := v }
  | .l, v => { c with l := v }

/-- BC (R21). -/
def Cpu.bc (c : Cpu) : Word := w16 c.b c.c
/-- DE (R21). -/
def Cpu.de (c : Cpu) : Word := w16 c.d c.e
/-- HL (R21). -/
def Cpu.hl (c : Cpu) : Word := w16 c.h c.l
/-- AF, with F packed (R21, R24). -/
def Cpu.af (c : Cpu) : Word := w16 c.a c.f.pack

/-- `BC <- w` (R21). -/
def Cpu.setBc (c : Cpu) (w : Word) : Cpu := { c with b := hi w, c := lo w }
/-- `DE <- w` (R21). -/
def Cpu.setDe (c : Cpu) (w : Word) : Cpu := { c with d := hi w, e := lo w }
/-- `HL <- w` (R21). -/
def Cpu.setHl (c : Cpu) (w : Word) : Cpu := { c with h := hi w, l := lo w }
/-- `AF <- w`: bits 3:0 are discarded (R21, R24). -/
def Cpu.setAf (c : Cpu) (w : Word) : Cpu := { c with a := hi w, f := Flags.unpack (lo w) }

/-- `x[rr]` of table `rp` (spec/30_encoding.md R143). -/
def Cpu.pair (c : Cpu) : Rp → Word
  | .bc => c.bc
  | .de => c.de
  | .hl => c.hl
  | .sp => c.sp

/-- `x[rr] <- w` of table `rp` (spec/30_encoding.md R143). -/
def Cpu.setPair (c : Cpu) : Rp → Word → Cpu
  | .bc, w => c.setBc w
  | .de, w => c.setDe w
  | .hl, w => c.setHl w
  | .sp, w => { c with sp := w }

/-- `x[rr]` of table `rp2` (spec/30_encoding.md R143). -/
def Cpu.stackPair (c : Cpu) : Rp2 → Word
  | .bc => c.bc
  | .de => c.de
  | .hl => c.hl
  | .af => c.af

/-- `x[rr] <- w` of table `rp2` (spec/30_encoding.md R143, spec/40_load.md R194, R195). -/
def Cpu.setStackPair (c : Cpu) : Rp2 → Word → Cpu
  | .bc, w => c.setBc w
  | .de, w => c.setDe w
  | .hl, w => c.setHl w
  | .af, w => c.setAf w

/-- Replace the CPU core. -/
def State.setCpu (s : State) (c : Cpu) : State := { s with cpu := c }

/-- Replace the bus. -/
def State.setBus (s : State) (b : Bus) : State := { s with bus := b }

/-- `x[r]` in a state. -/
def State.reg (s : State) (r : R8) : Byte := s.cpu.reg r

/-- `x[r] <- v` in a state. -/
def State.setReg (s : State) (r : R8) (v : Byte) : State := s.setCpu (s.cpu.setReg r v)

/-- Replace the four flags. -/
def State.setFlags (s : State) (f : Flags) : State := s.setCpu { s.cpu with f := f }

/-- `pc <- target` (spec/00_scope.md R11). -/
def State.setPc (s : State) (w : Word) : State := s.setCpu { s.cpu with pc := w }

/-- `SP <- w`. -/
def State.setSp (s : State) (w : Word) : State := s.setCpu { s.cpu with sp := w }

/-- `cycles <- n` (spec/00_scope.md R11). -/
def State.charge (s : State) (n : Nat) : State := s.setCpu { s.cpu with cost := n }

/-- The end of a step that answers `Ok(n)` (spec/60_exceptions.md R350). -/
def done (n : Nat) (s : State) : Result := .next (s.charge n)

/-! ### Memory and the stack -/

/-- `MemRead(a, 1)` (spec/00_scope.md R11). -/
def State.read (s : State) (a : Word) : Byte := s.bus.read s.config.echoRam a

/-- `MemWrite(a, 1, v)` (spec/00_scope.md R11). -/
def State.write (s : State) (a : Word) (v : Byte) : State := s.setBus (s.bus.write s.config.echoRam a v)

/-- `push16(w)`: the high byte first, each under a decremented SP (R200, D34). -/
def State.push16 (s : State) (w : Word) : State :=
  let s := s.setSp (s.cpu.sp - 1)
  let s := s.write s.cpu.sp (hi w)
  let s := s.setSp (s.cpu.sp - 1)
  s.write s.cpu.sp (lo w)

/-- The word `pop16()` answers: the low byte at SP, the high byte at SP + 1 (R201). -/
def State.top16 (s : State) : Word := w16 (s.read (s.cpu.sp + 1)) (s.read s.cpu.sp)

/-- The state after `pop16()`: SP is two higher (R201). -/
def State.dropTop (s : State) : State := s.setSp (s.cpu.sp + 2)

/-- `fetch8()`: the byte at PC and the state with PC past it (spec/00_scope.md R11). -/
def State.fetch8 (s : State) : Byte × State := (s.read s.cpu.pc, s.setPc (s.cpu.pc + 1))

/-! ### Interrupts and the fatal outcome -/

/-- `p = IF & IE & 0x1F` (spec/60_exceptions.md R350). -/
def State.pending (s : State) : Byte := s.bus.ifr &&& s.bus.ie &&& 0x1F

/-- The index of the lowest set bit of `p`, the interrupt of highest priority (spec/60_exceptions.md R355). -/
def lowestBit (p : Byte) : Nat :=
  if bitOf p 0 then 0 else if bitOf p 1 then 1 else if bitOf p 2 then 2 else if bitOf p 3 then 3 else 4

/-- The vector of interrupt `n`, `0x0040 + 8*n` (spec/60_exceptions.md R356). -/
def interruptVector (n : Nat) : Word := BitVec.ofNat 16 (0x0040 + 8 * n)

/-- TAKING AN INTERRUPT, `Dispatch(p)`: IME is cleared, the one IF bit is cleared, PC is pushed through the bus, PC goes to
the vector; only PC is saved (spec/60_exceptions.md R352, R360, D40). -/
def State.dispatch (s : State) (p : Byte) : State :=
  let n := lowestBit p
  let s := s.setCpu { s.cpu with ime := false }
  let s := s.setBus { s.bus with ifr := s.bus.ifr &&& ~~~((1 : Byte) <<< n) }
  let s := s.push16 s.cpu.pc
  s.setPc (interruptVector n)

/-- RETURNING FROM AN INTERRUPT: PC is popped and IME set at once (spec/44_control.md R310, spec/60_exceptions.md R358). -/
def State.returnFromInterrupt (s : State) : State :=
  let s := (s.dropTop).setPc s.top16
  s.setCpu { s.cpu with ime := true }

/-- THE FATAL DECODE OUTCOME `Fatal(a)`: the fatal mark and `fatalAddr` are set and PC is left at `a`; nothing else changes
(spec/60_exceptions.md R362, D35). The host sees it in the mark, and every later step faults (notes/assumptions/5.md). -/
def State.raiseFatal (s : State) (a : Word) : State :=
  s.setCpu { s.cpu with fatal := true, fatalAddr := a, pc := a }

end Sys2Proof.Machine
end

