-- ==== Sys2Proof/Machine/Render.lean ====
section
/-!
DEFINITION. Line rendering (spec/60_exceptions.md R394-R400): the background, window and sprite passes of one row, per
pixel, and the row's copy into the frame buffer.
-/

namespace Sys2Proof.Machine

/-- A pixel of the row under construction: `bgIdx[x]`, the raw colour index of background or window, and `shade[x]` (R394). -/
structure Pixel where
  bgIdx : BitVec 2
  shade : Shade
  deriving DecidableEq, Repr

/-- `vram[off]`. -/
def Bus.vram (b : Bus) (off : Nat) : Byte := b.mem.read (0x8000 + off)

/-- `oam[i]`. -/
def Bus.oam (b : Bus) (i : Nat) : Byte := b.mem.read (0xFE00 + i)

/-- The shade of colour index `i` under palette `p` (spec/10_state.md R43). -/
def paletteShade (p : Byte) (i : BitVec 2) : Shade := (p >>> (2 * i.toNat)).setWidth 2

/-- The colour index at row `row`, column `col` of the tile at VRAM offset `t` (R395). -/
def Bus.tileIndex (b : Bus) (t row col : Nat) : BitVec 2 :=
  BitVec.ofBool (bitOf (b.vram (t + 2 * row + 1)) (7 - col)) ++ BitVec.ofBool (bitOf (b.vram (t + 2 * row)) (7 - col))

/-- The VRAM offset of background or window tile `t`, by LCDC bit 4 (R395). -/
def Bus.bgTileBase (b : Bus) (t : Byte) : Nat :=
  if bitOf b.lcdc 4 then 16 * t.toNat else ((0x1000 : Int) + 16 * t.toInt).toNat

/-- The VRAM offset of a tile map, by its select bit (R395-R397). -/
def mapBase (select : Bool) : Nat := if select then 0x1C00 else 0x1800

/-- A background or window pixel: the tile map's entry at map row `y / 8`, column `x / 8`, then the tile's pixel (R396,
R397). -/
def Bus.mapPixel (b : Bus) (map y x : Nat) : Pixel :=
  let t := b.vram (map + y / 8 * 32 + x / 8)
  let i := b.tileIndex (b.bgTileBase t) (y % 8) (x % 8)
  { bgIdx := i, shade := paletteShade b.bgp i }

/-- The background pass at column `x` (R396). -/
def Bus.bgPixel (b : Bus) (ly x : Nat) : Pixel :=
  if bitOf b.lcdc 0 then
    b.mapPixel (mapBase (bitOf b.lcdc 3)) ((ly + b.scy.toNat) % 256) ((x + b.scx.toNat) % 256)
  else { bgIdx := 0, shade := 0 }

/-- Whether the window pass runs on a line (R397). -/
def Bus.windowRuns (b : Bus) (ly : Nat) : Bool := bitOf b.lcdc 5 && decide (b.wy.toNat ≤ ly)

/-- The window-line counter that a window pass draws with: reset on the line of the window's top (R397, D41). -/
def Bus.windowRow (b : Bus) (ly : Nat) (windowLine : Byte) : Byte := if ly = b.wy.toNat then 0 else windowLine

/-- The window pass at column `x`, over the background's pixel: it draws where `x - (WX - 7) >= 0` (R397). -/
def Bus.windowPixel (b : Bus) (row : Byte) (x : Nat) (under : Pixel) : Pixel :=
  if b.wx.toNat ≤ x + 7 then b.mapPixel (mapBase (bitOf b.lcdc 6)) row.toNat (x + 7 - b.wx.toNat) else under

/-- A selected OAM entry (R398). -/
structure Sprite where
  y : Byte
  x : Byte
  tile : Byte
  attr : Byte
  deriving DecidableEq, Repr

/-- The sprite height, by LCDC bit 2 (R398). -/
def Bus.spriteHeight (b : Bus) : Nat := if bitOf b.lcdc 2 then 16 else 8

/-- OAM entry `i` (R398). -/
def Bus.sprite (b : Bus) (i : Nat) : Sprite :=
  { y := b.oam (4 * i), x := b.oam (4 * i + 1), tile := b.oam (4 * i + 2), attr := b.oam (4 * i + 3) }

/-- The first ten entries in table order that meet the line (R398); none where LCDC bit 1 is clear. -/
def Bus.selectSprites (b : Bus) (ly : Nat) : List Sprite :=
  if bitOf b.lcdc 1 then
    (((List.range 40).map b.sprite).filter
      (fun s => decide (s.y.toNat ≤ ly + 16 ∧ ly + 16 < s.y.toNat + b.spriteHeight))).take 10
  else []

/-- Put a sprite in front of the first one with a larger X. -/
def insertSprite (s : Sprite) : List Sprite → List Sprite
  | [] => [s]
  | t :: l => if s.x.toNat ≤ t.x.toNat then s :: t :: l else t :: insertSprite s l

/-- The drawing order: X ascending, then OAM order (R399). -/
def orderSprites : List Sprite → List Sprite
  | [] => []
  | s :: l => insertSprite s (orderSprites l)

/-- The colour index that a sprite shows at column `x`, where it covers that column (R399). -/
def Bus.spriteIndex (b : Bus) (ly x : Nat) (s : Sprite) : BitVec 2 :=
  let sx := x + 8 - s.x.toNat
  let row := ly + 16 - s.y.toNat
  let row := if bitOf s.attr 6 then b.spriteHeight - 1 - row else row
  let col := if bitOf s.attr 5 then 7 - sx else sx
  let t := if bitOf b.lcdc 2 then s.tile &&& 0xFE else s.tile
  b.tileIndex (16 * t.toNat) row col

/-- The sprite pass at column `x`: the first opaque sprite pixel in drawing order decides, and shows unless it is behind a
background index that is not 0 (R399). -/
def Bus.spritePixel (b : Bus) (ly x : Nat) (under : Pixel) : List Sprite → Shade
  | [] => under.shade
  | s :: l =>
    if s.x.toNat ≤ x + 8 ∧ x < s.x.toNat ∧ b.spriteIndex ly x s ≠ 0 then
      if bitOf s.attr 7 = true ∧ under.bgIdx ≠ 0 then under.shade
      else paletteShade (if bitOf s.attr 4 then b.obp1 else b.obp0) (b.spriteIndex ly x s)
    else b.spritePixel ly x under l

/-- One pixel of a row, through the three passes (R394). -/
def Bus.rowPixel (b : Bus) (ly : Nat) (row : Byte) (sprites : List Sprite) (x : Nat) : Shade :=
  let bg := b.bgPixel ly x
  let under := if b.windowRuns ly then b.windowPixel row x bg else bg
  b.spritePixel ly x under sprites

/-- The row of 160 shades that `RenderLine(ly)` builds (R394). -/
def Bus.renderRow (b : Bus) (ly : Nat) (windowLine : Byte) : List Shade :=
  (List.range 160).map (b.rowPixel ly (b.windowRow ly windowLine) (orderSprites (b.selectSprites ly)))

/-- `RenderLine(ly)`: the row into the frame buffer, and the window-line counter one further where the window pass ran
(R394, R397, R400). -/
def State.renderLine (s : State) (ly : Nat) : State :=
  { s with ppu := { s.ppu with
      frame := s.ppu.frame.set ly (s.bus.renderRow ly s.ppu.windowLine)
      windowLine := if s.bus.windowRuns ly then s.bus.windowRow ly s.ppu.windowLine + 1 else s.ppu.windowLine } }

end Sys2Proof.Machine
end

