-- ==== Sys2Proof/Machine/Devices.lean ====
section
/-!
DEFINITION. The PPU's timing engine (spec/60_exceptions.md R380-R393), the timer (R410) and the joypad latch (R415).
-/

namespace Sys2Proof.Machine

/-! ### The PPU -/

/-- `reqIF(n)`: `IF <- IF | (1 << n)`. -/
def State.reqIF (s : State) (n : Nat) : State := s.setBus { s.bus with ifr := s.bus.ifr ||| ((1 : Byte) <<< n) }

/-- Replace the PPU's mode and, by `setMode(m)`, STAT bits 1:0 with the mode's number (spec/10_state.md R38). -/
def State.enterMode (s : State) (m : Mode) : State :=
  let code : BitVec 2 := match m with
    | .hblank => 0
    | .vblank => 1
    | .oamSearch => 2
    | .transfer => 3
  { s with bus := { s.bus with stat := s.bus.stat.extractLsb' 2 5 ++ code }, ppu := { s.ppu with mode := m } }

/-- `reqIF(1)` where the STAT enable bit `i` is set (R388). -/
def State.statRequest (s : State) (i : Nat) : State := if s.bus.stat.getLsbD i then s.reqIF 1 else s

/-- `CompareLY()` (R392). -/
def State.compareLY (s : State) : State :=
  let eq := s.bus.ly == s.bus.lyc
  let s := s.setBus { s.bus with stat := (s.bus.stat.extractLsb' 3 4 ++ BitVec.ofBool eq) ++ s.bus.stat.extractLsb' 0 2 }
  if eq then s.statRequest 6 else s

/-- `EnterOAM()` (R389). -/
def State.enterOAM (s : State) : State :=
  let s := s.enterMode .oamSearch
  let s := { s with ppu := { s.ppu with vblankTriggered := false } }
  s.statRequest 5

/-- `EnterTransfer()` (R384). -/
def State.enterTransfer (s : State) : State := s.enterMode .transfer

/-- `EnterHBlank()` (R385). -/
def State.enterHBlank (s : State) : State :=
  let s := (s.enterMode .hblank).statRequest 3
  if s.bus.ly.toNat ≤ 143 then s.renderLine s.bus.ly.toNat else s

/-- `EnterVBlank()` (R387, R391). -/
def State.enterVBlank (s : State) : State :=
  let s := s.enterMode .vblank
  let s := if s.ppu.vblankTriggered then s
    else { (s.reqIF 0) with ppu := { s.ppu with vblankTriggered := true, frameReady := true } }
  s.statRequest 4

/-- `LY <- v`. -/
def State.setLy (s : State) (v : Byte) : State := s.setBus { s.bus with ly := v }

/-- `EndHBlank()` (R386). -/
def State.endHBlank (s : State) : State :=
  let s := (s.setLy (s.bus.ly + 1)).compareLY
  if s.bus.ly = 144 then s.enterVBlank else s.enterOAM

/-- `EndVBlankLine()` (R390). -/
def State.endVBlankLine (s : State) : State :=
  let ly := s.bus.ly + 1
  if ly.toNat > 153 then (s.setLy 0).compareLY.enterOAM else (s.setLy ly).compareLY

/-- The length of a phase (R381). -/
def Mode.length : Mode → Nat
  | .oamSearch => 80
  | .transfer => 172
  | .hblank => 204
  | .vblank => 456

/-- The transition at the end of a phase (R383). -/
def State.endPhase (s : State) : State :=
  match s.ppu.mode with
  | .oamSearch => s.enterTransfer
  | .transfer => s.enterHBlank
  | .hblank => s.endHBlank
  | .vblank => s.endVBlankLine

/-- The loop of R383, for at most `fuel` transitions: while the accumulator has reached the phase's length, that length is
taken off it and the phase ends. -/
def State.ppuLoop : Nat → State → State
  | 0, s => s
  | fuel + 1, s =>
    if s.ppu.mode.length ≤ s.ppu.dots then
      State.ppuLoop fuel (State.endPhase { s with ppu := { s.ppu with dots := s.ppu.dots - s.ppu.mode.length } })
    else s

/-- The LCD is off: the PPU freezes in HBlank with no dots (R382). -/
def State.freezePpu (s : State) : State :=
  let s := s.enterMode .hblank
  { s with ppu := { s.ppu with dots := 0 } }

/-- `PPU.Step(c)` (R382, R383). Every transition takes at least 80 from the accumulator, so the fuel covers the whole loop
(notes/assumptions/12.md). -/
def State.ppuStep (s : State) (c : Nat) : State :=
  if bitOf s.bus.lcdc 7 then
    State.ppuLoop ((s.ppu.dots + c) / 80 + 1) { s with ppu := { s.ppu with dots := s.ppu.dots + c } }
  else s.freezePpu

/-! ### The timer -/

/-- `Timer.Step(c)` (R410): the loop takes 256 from the accumulator as often as it can. -/
def State.timerStep (s : State) (c : Nat) : State :=
  { s with
    bus := { s.bus with div := s.bus.div + BitVec.ofNat 8 ((s.divAcc + c) / 256) }
    divAcc := (s.divAcc + c) % 256 }

/-! ### The joypad -/

/-- The joypad byte of the eight buttons, active low: Start Select B A Down Up Left Right from bit 7 to bit 0
(spec/10_state.md R52, R415). -/
def Buttons.lines (b : Buttons) : Byte :=
  (((((((BitVec.ofBool (!b.start) ++ BitVec.ofBool (!b.select)) ++ BitVec.ofBool (!b.b)) ++ BitVec.ofBool (!b.a)) ++
    BitVec.ofBool (!b.down)) ++ BitVec.ofBool (!b.up)) ++ BitVec.ofBool (!b.left)) ++ BitVec.ofBool (!b.right))

/-- `Joypad.Sample(b)` (R415); it requests no interrupt (R417). -/
def State.sample (s : State) (b : Buttons) : State := s.setBus { s.bus with joy := b.lines }

end Sys2Proof.Machine
end

