-- ==== Sys2Proof/Machine/Operands.lean ====
section
/-!
DEFINITION. Every operand form of the instruction set (spec/30_encoding.md R142-R146, spec/40_load.md R202,
spec/41_alu8.md R210, spec/43_bit.md R274).
-/

namespace Sys2Proof.Machine

/-- The operand of the extended table, and of INC and DEC: a register or the byte at HL (R142, R274). -/
inductive Loc where
  | reg (r : R8)
  | atHL
  deriving DecidableEq, Repr

/-- Read the operand. -/
def State.readLoc (s : State) : Loc → Byte
  | .reg r => s.reg r
  | .atHL => s.read s.cpu.hl

/-- Write the operand. -/
def State.writeLoc (s : State) : Loc → Byte → State
  | .reg r, v => s.setReg r v
  | .atHL, v => s.write s.cpu.hl v

/-- The source operand of an ALU instruction (R210). -/
inductive Src where
  | reg (r : R8)
  | atHL
  | imm (n8 : Byte)
  deriving DecidableEq, Repr

/-- Read the source operand. -/
def State.readSrc (s : State) : Src → Byte
  | .reg r => s.reg r
  | .atHL => s.read s.cpu.hl
  | .imm n8 => n8

/-- The cost of an ALU instruction by its source form (R210). -/
def Src.cost : Src → Nat
  | .reg _ => 4
  | .atHL => 8
  | .imm _ => 8

/-- The memory operand of a load or store of A (spec/40_load.md R175-R188, R202). -/
inductive Addr where
  | bc
  | de
  | hlInc
  | hlDec
  | abs (a16 : Word)
  | high (a8 : Byte)
  | highC
  deriving DecidableEq, Repr

/-- The effective address (R202). -/
def State.addrOf (s : State) : Addr → Word
  | .bc => s.cpu.bc
  | .de => s.cpu.de
  | .hlInc => s.cpu.hl
  | .hlDec => s.cpu.hl
  | .abs a16 => a16
  | .high a8 => highPage a8
  | .highC => highPage s.cpu.c

/-- The change of HL after the access, for the post-increment and post-decrement forms (R185-R188, R202). -/
def State.afterAccess (s : State) : Addr → State
  | .hlInc => s.setCpu (s.cpu.setHl (s.cpu.hl + 1))
  | .hlDec => s.setCpu (s.cpu.setHl (s.cpu.hl - 1))
  | _ => s

/-- The cost of a load or store of A by its addressing form (R175-R188). -/
def Addr.cost : Addr → Nat
  | .abs _ => 16
  | .high _ => 12
  | _ => 8

end Sys2Proof.Machine
end

