-- ==== Sys2Proof/Machine/Alu16.lean ====
section
/-!
DEFINITION. 16-bit arithmetic (spec/42_alu16.md).
-/

namespace Sys2Proof.Machine

/-- ADD HL,rr (R262). -/
def addHl (p : Rp) (s : State) : Result :=
  let r := add16 s.cpu.hl (s.cpu.pair p) s.cpu.f
  done 8 ((s.setCpu (s.cpu.setHl r.1)).setFlags r.2)

/-- INC rr (R263). -/
def incPair (p : Rp) (s : State) : Result := done 8 (s.setCpu (s.cpu.setPair p (s.cpu.pair p + 1)))

/-- DEC rr (R264). -/
def decPair (p : Rp) (s : State) : Result := done 8 (s.setCpu (s.cpu.setPair p (s.cpu.pair p - 1)))

/-- ADD SP,e8 (R265). -/
def addSp (e8 : Byte) (s : State) : Result :=
  let r := spAdd s.config.spOffsetFlags s.cpu.sp e8
  done 16 ((s.setSp r.1).setFlags r.2)

/-! ### The meanings, one for each row of the table -/

/-! R262. -/
/-- ADD HL,BC -/
def execAdd_hl_bc (s : State) : Result := addHl .bc s
/-- ADD HL,DE -/
def execAdd_hl_de (s : State) : Result := addHl .de s
/-- ADD HL,HL -/
def execAdd_hl_hl (s : State) : Result := addHl .hl s
/-- ADD HL,SP -/
def execAdd_hl_sp (s : State) : Result := addHl .sp s

/-! R263. -/
/-- INC BC -/
def execInc_bc (s : State) : Result := incPair .bc s
/-- INC DE -/
def execInc_de (s : State) : Result := incPair .de s
/-- INC HL -/
def execInc_hl (s : State) : Result := incPair .hl s
/-- INC SP -/
def execInc_sp (s : State) : Result := incPair .sp s

/-! R264. -/
/-- DEC BC -/
def execDec_bc (s : State) : Result := decPair .bc s
/-- DEC DE -/
def execDec_de (s : State) : Result := decPair .de s
/-- DEC HL -/
def execDec_hl (s : State) : Result := decPair .hl s
/-- DEC SP -/
def execDec_sp (s : State) : Result := decPair .sp s

/-! R265. -/
/-- ADD SP,e8 -/
def execAdd_sp_e8 (e8 : Byte) (s : State) : Result := addSp e8 s

end Sys2Proof.Machine
end

