-- ==== Sys2Proof/Machine/Alu8.lean ====
section
/-!
DEFINITION. 8-bit arithmetic and logic (spec/41_alu8.md).
-/

namespace Sys2Proof.Machine

/-- The ALU instructions on A: A and the flags of `aluResult` (R210, R214-R237). -/
def aluOp (op : AluOp) (src : Src) (s : State) : Result :=
  let r := aluResult s.config.andSetsH op s.cpu.a (s.readSrc src) s.cpu.f
  done src.cost ((s.setReg .a r.1).setFlags r.2)

/-- The cost of INC and DEC of a byte (R238-R241). -/
def Loc.incCost : Loc → Nat
  | .reg _ => 4
  | .atHL => 12

/-- INC r and INC (HL) (R238, R239): the read, then the write, then the flags. -/
def incLoc (x : Loc) (s : State) : Result :=
  let r := inc8 (s.readLoc x) s.cpu.f
  done x.incCost ((s.writeLoc x r.1).setFlags r.2)

/-- DEC r and DEC (HL) (R240, R241). -/
def decLoc (x : Loc) (s : State) : Result :=
  let r := dec8 (s.readLoc x) s.cpu.f
  done x.incCost ((s.writeLoc x r.1).setFlags r.2)

/-- DAA (R242). -/
def adjustDecimal (s : State) : Result :=
  let r := daa s.cpu.a s.cpu.f
  done 4 ((s.setReg .a r.1).setFlags r.2)

/-- CPL (R243). -/
def complementA (s : State) : Result :=
  let r := cpl s.cpu.a s.cpu.f
  done 4 ((s.setReg .a r.1).setFlags r.2)

/-- SCF (R244). -/
def setCarry (s : State) : Result := done 4 (s.setFlags (scf s.cpu.f))

/-- CCF (R245). -/
def flipCarry (s : State) : Result := done 4 (s.setFlags (ccf s.cpu.f))

/-! ### The meanings, one for each row of the table -/

/-! R214. -/
/-- ADD A,B -/
def execAdd_a_b (s : State) : Result := aluOp .add (.reg .b) s
/-- ADD A,C -/
def execAdd_a_c (s : State) : Result := aluOp .add (.reg .c) s
/-- ADD A,D -/
def execAdd_a_d (s : State) : Result := aluOp .add (.reg .d) s
/-- ADD A,E -/
def execAdd_a_e (s : State) : Result := aluOp .add (.reg .e) s
/-- ADD A,H -/
def execAdd_a_h (s : State) : Result := aluOp .add (.reg .h) s
/-- ADD A,L -/
def execAdd_a_l (s : State) : Result := aluOp .add (.reg .l) s
/-- ADD A,A -/
def execAdd_a_a (s : State) : Result := aluOp .add (.reg .a) s

/-! R215. -/
/-- ADD A,(HL) -/
def execAdd_a_atHL (s : State) : Result := aluOp .add .atHL s

/-! R216. -/
/-- ADD A,n8 -/
def execAdd_a_n8 (n8 : Byte) (s : State) : Result := aluOp .add (.imm n8) s

/-! R217. -/
/-- ADC A,B -/
def execAdc_a_b (s : State) : Result := aluOp .adc (.reg .b) s
/-- ADC A,C -/
def execAdc_a_c (s : State) : Result := aluOp .adc (.reg .c) s
/-- ADC A,D -/
def execAdc_a_d (s : State) : Result := aluOp .adc (.reg .d) s
/-- ADC A,E -/
def execAdc_a_e (s : State) : Result := aluOp .adc (.reg .e) s
/-- ADC A,H -/
def execAdc_a_h (s : State) : Result := aluOp .adc (.reg .h) s
/-- ADC A,L -/
def execAdc_a_l (s : State) : Result := aluOp .adc (.reg .l) s
/-- ADC A,A -/
def execAdc_a_a (s : State) : Result := aluOp .adc (.reg .a) s

/-! R218. -/
/-- ADC A,(HL) -/
def execAdc_a_atHL (s : State) : Result := aluOp .adc .atHL s

/-! R219. -/
/-- ADC A,n8 -/
def execAdc_a_n8 (n8 : Byte) (s : State) : Result := aluOp .adc (.imm n8) s

/-! R220. -/
/-- SUB B -/
def execSub_b (s : State) : Result := aluOp .sub (.reg .b) s
/-- SUB C -/
def execSub_c (s : State) : Result := aluOp .sub (.reg .c) s
/-- SUB D -/
def execSub_d (s : State) : Result := aluOp .sub (.reg .d) s
/-- SUB E -/
def execSub_e (s : State) : Result := aluOp .sub (.reg .e) s
/-- SUB H -/
def execSub_h (s : State) : Result := aluOp .sub (.reg .h) s
/-- SUB L -/
def execSub_l (s : State) : Result := aluOp .sub (.reg .l) s
/-- SUB A -/
def execSub_a (s : State) : Result := aluOp .sub (.reg .a) s

/-! R221. -/
/-- SUB (HL) -/
def execSub_atHL (s : State) : Result := aluOp .sub .atHL s

/-! R222. -/
/-- SUB n8 -/
def execSub_n8 (n8 : Byte) (s : State) : Result := aluOp .sub (.imm n8) s

/-! R223. -/
/-- SBC A,B -/
def execSbc_a_b (s : State) : Result := aluOp .sbc (.reg .b) s
/-- SBC A,C -/
def execSbc_a_c (s : State) : Result := aluOp .sbc (.reg .c) s
/-- SBC A,D -/
def execSbc_a_d (s : State) : Result := aluOp .sbc (.reg .d) s
/-- SBC A,E -/
def execSbc_a_e (s : State) : Result := aluOp .sbc (.reg .e) s
/-- SBC A,H -/
def execSbc_a_h (s : State) : Result := aluOp .sbc (.reg .h) s
/-- SBC A,L -/
def execSbc_a_l (s : State) : Result := aluOp .sbc (.reg .l) s
/-- SBC A,A -/
def execSbc_a_a (s : State) : Result := aluOp .sbc (.reg .a) s

/-! R224. -/
/-- SBC A,(HL) -/
def execSbc_a_atHL (s : State) : Result := aluOp .sbc .atHL s

/-! R225. -/
/-- SBC A,n8 -/
def execSbc_a_n8 (n8 : Byte) (s : State) : Result := aluOp .sbc (.imm n8) s

/-! R226. -/
/-- AND B -/
def execAnd_b (s : State) : Result := aluOp .and (.reg .b) s
/-- AND C -/
def execAnd_c (s : State) : Result := aluOp .and (.reg .c) s
/-- AND D -/
def execAnd_d (s : State) : Result := aluOp .and (.reg .d) s
/-- AND E -/
def execAnd_e (s : State) : Result := aluOp .and (.reg .e) s
/-- AND H -/
def execAnd_h (s : State) : Result := aluOp .and (.reg .h) s
/-- AND L -/
def execAnd_l (s : State) : Result := aluOp .and (.reg .l) s
/-- AND A -/
def execAnd_a (s : State) : Result := aluOp .and (.reg .a) s

/-! R227. -/
/-- AND (HL) -/
def execAnd_atHL (s : State) : Result := aluOp .and .atHL s

/-! R228. -/
/-- AND n8 -/
def execAnd_n8 (n8 : Byte) (s : State) : Result := aluOp .and (.imm n8) s

/-! R229. -/
/-- XOR B -/
def execXor_b (s : State) : Result := aluOp .xor (.reg .b) s
/-- XOR C -/
def execXor_c (s : State) : Result := aluOp .xor (.reg .c) s
/-- XOR D -/
def execXor_d (s : State) : Result := aluOp .xor (.reg .d) s
/-- XOR E -/
def execXor_e (s : State) : Result := aluOp .xor (.reg .e) s
/-- XOR H -/
def execXor_h (s : State) : Result := aluOp .xor (.reg .h) s
/-- XOR L -/
def execXor_l (s : State) : Result := aluOp .xor (.reg .l) s
/-- XOR A -/
def execXor_a (s : State) : Result := aluOp .xor (.reg .a) s

/-! R230. -/
/-- XOR (HL) -/
def execXor_atHL (s : State) : Result := aluOp .xor .atHL s

/-! R231. -/
/-- XOR n8 -/
def execXor_n8 (n8 : Byte) (s : State) : Result := aluOp .xor (.imm n8) s

/-! R232. -/
/-- OR B -/
def execOr_b (s : State) : Result := aluOp .or (.reg .b) s
/-- OR C -/
def execOr_c (s : State) : Result := aluOp .or (.reg .c) s
/-- OR D -/
def execOr_d (s : State) : Result := aluOp .or (.reg .d) s
/-- OR E -/
def execOr_e (s : State) : Result := aluOp .or (.reg .e) s
/-- OR H -/
def execOr_h (s : State) : Result := aluOp .or (.reg .h) s
/-- OR L -/
def execOr_l (s : State) : Result := aluOp .or (.reg .l) s
/-- OR A -/
def execOr_a (s : State) : Result := aluOp .or (.reg .a) s

/-! R233. -/
/-- OR (HL) -/
def execOr_atHL (s : State) : Result := aluOp .or .atHL s

/-! R234. -/
/-- OR n8 -/
def execOr_n8 (n8 : Byte) (s : State) : Result := aluOp .or (.imm n8) s

/-! R235. -/
/-- CP B -/
def execCp_b (s : State) : Result := aluOp .cp (.reg .b) s
/-- CP C -/
def execCp_c (s : State) : Result := aluOp .cp (.reg .c) s
/-- CP D -/
def execCp_d (s : State) : Result := aluOp .cp (.reg .d) s
/-- CP E -/
def execCp_e (s : State) : Result := aluOp .cp (.reg .e) s
/-- CP H -/
def execCp_h (s : State) : Result := aluOp .cp (.reg .h) s
/-- CP L -/
def execCp_l (s : State) : Result := aluOp .cp (.reg .l) s
/-- CP A -/
def execCp_a (s : State) : Result := aluOp .cp (.reg .a) s

/-! R236. -/
/-- CP (HL) -/
def execCp_atHL (s : State) : Result := aluOp .cp .atHL s

/-! R237. -/
/-- CP n8 -/
def execCp_n8 (n8 : Byte) (s : State) : Result := aluOp .cp (.imm n8) s

/-! R238. -/
/-- INC B -/
def execInc_b (s : State) : Result := incLoc (.reg .b) s
/-- INC C -/
def execInc_c (s : State) : Result := incLoc (.reg .c) s
/-- INC D -/
def execInc_d (s : State) : Result := incLoc (.reg .d) s
/-- INC E -/
def execInc_e (s : State) : Result := incLoc (.reg .e) s
/-- INC H -/
def execInc_h (s : State) : Result := incLoc (.reg .h) s
/-- INC L -/
def execInc_l (s : State) : Result := incLoc (.reg .l) s
/-- INC A -/
def execInc_a (s : State) : Result := incLoc (.reg .a) s

/-! R239. -/
/-- INC (HL) -/
def execInc_atHL (s : State) : Result := incLoc .atHL s

/-! R240. -/
/-- DEC B -/
def execDec_b (s : State) : Result := decLoc (.reg .b) s
/-- DEC C -/
def execDec_c (s : State) : Result := decLoc (.reg .c) s
/-- DEC D -/
def execDec_d (s : State) : Result := decLoc (.reg .d) s
/-- DEC E -/
def execDec_e (s : State) : Result := decLoc (.reg .e) s
/-- DEC H -/
def execDec_h (s : State) : Result := decLoc (.reg .h) s
/-- DEC L -/
def execDec_l (s : State) : Result := decLoc (.reg .l) s
/-- DEC A -/
def execDec_a (s : State) : Result := decLoc (.reg .a) s

/-! R241. -/
/-- DEC (HL) -/
def execDec_atHL (s : State) : Result := decLoc .atHL s

/-! R242. -/
/-- DAA -/
def execDaa (s : State) : Result := adjustDecimal s

/-! R243. -/
/-- CPL -/
def execCpl (s : State) : Result := complementA s

/-! R244. -/
/-- SCF -/
def execScf (s : State) : Result := setCarry s

/-! R245. -/
/-- CCF -/
def execCcf (s : State) : Result := flipCarry s

end Sys2Proof.Machine
end

