-- ==== Sys2Proof/Machine/Bit.lean ====
section
/-!
DEFINITION. Rotates, shifts and bit operations (spec/43_bit.md).
-/

namespace Sys2Proof.Machine

/-- RLCA, RRCA, RLA, RRA (R270-R273). -/
def rotA (op : RotOp) (s : State) : Result :=
  let r := rotAcc op s.cpu.a s.cpu.f
  done 4 ((s.setReg .a r.1).setFlags r.2)

/-- The cost of the extended forms that write their operand (R274). -/
def Loc.extCost : Loc → Nat
  | .reg _ => 8
  | .atHL => 16

/-- The cost of BIT (R274, R283). -/
def Loc.bitCost : Loc → Nat
  | .reg _ => 8
  | .atHL => 12

/-- RLC, RRC, RL, RR, SLA, SRA, SWAP, SRL (R274-R282). -/
def rotLoc (op : RotOp) (x : Loc) (s : State) : Result :=
  let r := rotExt op (s.readLoc x) s.cpu.f
  done x.extCost ((s.writeLoc x r.1).setFlags r.2)

/-- BIT b (R283): nothing is written back. -/
def bitLoc (b : BitIdx) (x : Loc) (s : State) : Result :=
  done x.bitCost (s.setFlags (bitTest b (s.readLoc x) s.cpu.f))

/-- RES b (R284): the write happens also where the bit is clear already. -/
def resLoc (b : BitIdx) (x : Loc) (s : State) : Result :=
  done x.extCost (s.writeLoc x (resBit b (s.readLoc x)))

/-- SET b (R285). -/
def setLoc (b : BitIdx) (x : Loc) (s : State) : Result :=
  done x.extCost (s.writeLoc x (setBit b (s.readLoc x)))

/-! ### The meanings, one for each row of the table -/

/-! R270. -/
/-- RLCA -/
def execRlca (s : State) : Result := rotA .rlc s

/-! R271. -/
/-- RRCA -/
def execRrca (s : State) : Result := rotA .rrc s

/-! R272. -/
/-- RLA -/
def execRla (s : State) : Result := rotA .rl s

/-! R273. -/
/-- RRA -/
def execRra (s : State) : Result := rotA .rr s

/-! R275. -/
/-- RLC B -/
def execRlc_b (s : State) : Result := rotLoc .rlc (.reg .b) s
/-- RLC C -/
def execRlc_c (s : State) : Result := rotLoc .rlc (.reg .c) s
/-- RLC D -/
def execRlc_d (s : State) : Result := rotLoc .rlc (.reg .d) s
/-- RLC E -/
def execRlc_e (s : State) : Result := rotLoc .rlc (.reg .e) s
/-- RLC H -/
def execRlc_h (s : State) : Result := rotLoc .rlc (.reg .h) s
/-- RLC L -/
def execRlc_l (s : State) : Result := rotLoc .rlc (.reg .l) s
/-- RLC (HL) -/
def execRlc_atHL (s : State) : Result := rotLoc .rlc .atHL s
/-- RLC A -/
def execRlc_a (s : State) : Result := rotLoc .rlc (.reg .a) s

/-! R276. -/
/-- RRC B -/
def execRrc_b (s : State) : Result := rotLoc .rrc (.reg .b) s
/-- RRC C -/
def execRrc_c (s : State) : Result := rotLoc .rrc (.reg .c) s
/-- RRC D -/
def execRrc_d (s : State) : Result := rotLoc .rrc (.reg .d) s
/-- RRC E -/
def execRrc_e (s : State) : Result := rotLoc .rrc (.reg .e) s
/-- RRC H -/
def execRrc_h (s : State) : Result := rotLoc .rrc (.reg .h) s
/-- RRC L -/
def execRrc_l (s : State) : Result := rotLoc .rrc (.reg .l) s
/-- RRC (HL) -/
def execRrc_atHL (s : State) : Result := rotLoc .rrc .atHL s
/-- RRC A -/
def execRrc_a (s : State) : Result := rotLoc .rrc (.reg .a) s

/-! R277. -/
/-- RL B -/
def execRl_b (s : State) : Result := rotLoc .rl (.reg .b) s
/-- RL C -/
def execRl_c (s : State) : Result := rotLoc .rl (.reg .c) s
/-- RL D -/
def execRl_d (s : State) : Result := rotLoc .rl (.reg .d) s
/-- RL E -/
def execRl_e (s : State) : Result := rotLoc .rl (.reg .e) s
/-- RL H -/
def execRl_h (s : State) : Result := rotLoc .rl (.reg .h) s
/-- RL L -/
def execRl_l (s : State) : Result := rotLoc .rl (.reg .l) s
/-- RL (HL) -/
def execRl_atHL (s : State) : Result := rotLoc .rl .atHL s
/-- RL A -/
def execRl_a (s : State) : Result := rotLoc .rl (.reg .a) s

/-! R278. -/
/-- RR B -/
def execRr_b (s : State) : Result := rotLoc .rr (.reg .b) s
/-- RR C -/
def execRr_c (s : State) : Result := rotLoc .rr (.reg .c) s
/-- RR D -/
def execRr_d (s : State) : Result := rotLoc .rr (.reg .d) s
/-- RR E -/
def execRr_e (s : State) : Result := rotLoc .rr (.reg .e) s
/-- RR H -/
def execRr_h (s : State) : Result := rotLoc .rr (.reg .h) s
/-- RR L -/
def execRr_l (s : State) : Result := rotLoc .rr (.reg .l) s
/-- RR (HL) -/
def execRr_atHL (s : State) : Result := rotLoc .rr .atHL s
/-- RR A -/
def execRr_a (s : State) : Result := rotLoc .rr (.reg .a) s

/-! R279. -/
/-- SLA B -/
def execSla_b (s : State) : Result := rotLoc .sla (.reg .b) s
/-- SLA C -/
def execSla_c (s : State) : Result := rotLoc .sla (.reg .c) s
/-- SLA D -/
def execSla_d (s : State) : Result := rotLoc .sla (.reg .d) s
/-- SLA E -/
def execSla_e (s : State) : Result := rotLoc .sla (.reg .e) s
/-- SLA H -/
def execSla_h (s : State) : Result := rotLoc .sla (.reg .h) s
/-- SLA L -/
def execSla_l (s : State) : Result := rotLoc .sla (.reg .l) s
/-- SLA (HL) -/
def execSla_atHL (s : State) : Result := rotLoc .sla .atHL s
/-- SLA A -/
def execSla_a (s : State) : Result := rotLoc .sla (.reg .a) s

/-! R280. -/
/-- SRA B -/
def execSra_b (s : State) : Result := rotLoc .sra (.reg .b) s
/-- SRA C -/
def execSra_c (s : State) : Result := rotLoc .sra (.reg .c) s
/-- SRA D -/
def execSra_d (s : State) : Result := rotLoc .sra (.reg .d) s
/-- SRA E -/
def execSra_e (s : State) : Result := rotLoc .sra (.reg .e) s
/-- SRA H -/
def execSra_h (s : State) : Result := rotLoc .sra (.reg .h) s
/-- SRA L -/
def execSra_l (s : State) : Result := rotLoc .sra (.reg .l) s
/-- SRA (HL) -/
def execSra_atHL (s : State) : Result := rotLoc .sra .atHL s
/-- SRA A -/
def execSra_a (s : State) : Result := rotLoc .sra (.reg .a) s

/-! R281. -/
/-- SWAP B -/
def execSwap_b (s : State) : Result := rotLoc .swap (.reg .b) s
/-- SWAP C -/
def execSwap_c (s : State) : Result := rotLoc .swap (.reg .c) s
/-- SWAP D -/
def execSwap_d (s : State) : Result := rotLoc .swap (.reg .d) s
/-- SWAP E -/
def execSwap_e (s : State) : Result := rotLoc .swap (.reg .e) s
/-- SWAP H -/
def execSwap_h (s : State) : Result := rotLoc .swap (.reg .h) s
/-- SWAP L -/
def execSwap_l (s : State) : Result := rotLoc .swap (.reg .l) s
/-- SWAP (HL) -/
def execSwap_atHL (s : State) : Result := rotLoc .swap .atHL s
/-- SWAP A -/
def execSwap_a (s : State) : Result := rotLoc .swap (.reg .a) s

/-! R282. -/
/-- SRL B -/
def execSrl_b (s : State) : Result := rotLoc .srl (.reg .b) s
/-- SRL C -/
def execSrl_c (s : State) : Result := rotLoc .srl (.reg .c) s
/-- SRL D -/
def execSrl_d (s : State) : Result := rotLoc .srl (.reg .d) s
/-- SRL E -/
def execSrl_e (s : State) : Result := rotLoc .srl (.reg .e) s
/-- SRL H -/
def execSrl_h (s : State) : Result := rotLoc .srl (.reg .h) s
/-- SRL L -/
def execSrl_l (s : State) : Result := rotLoc .srl (.reg .l) s
/-- SRL (HL) -/
def execSrl_atHL (s : State) : Result := rotLoc .srl .atHL s
/-- SRL A -/
def execSrl_a (s : State) : Result := rotLoc .srl (.reg .a) s

/-! R283. -/
/-- BIT 0,B -/
def execBit_0_b (s : State) : Result := bitLoc .b0 (.reg .b) s
/-- BIT 0,C -/
def execBit_0_c (s : State) : Result := bitLoc .b0 (.reg .c) s
/-- BIT 0,D -/
def execBit_0_d (s : State) : Result := bitLoc .b0 (.reg .d) s
/-- BIT 0,E -/
def execBit_0_e (s : State) : Result := bitLoc .b0 (.reg .e) s
/-- BIT 0,H -/
def execBit_0_h (s : State) : Result := bitLoc .b0 (.reg .h) s
/-- BIT 0,L -/
def execBit_0_l (s : State) : Result := bitLoc .b0 (.reg .l) s
/-- BIT 0,(HL) -/
def execBit_0_atHL (s : State) : Result := bitLoc .b0 .atHL s
/-- BIT 0,A -/
def execBit_0_a (s : State) : Result := bitLoc .b0 (.reg .a) s
/-- BIT 1,B -/
def execBit_1_b (s : State) : Result := bitLoc .b1 (.reg .b) s
/-- BIT 1,C -/
def execBit_1_c (s : State) : Result := bitLoc .b1 (.reg .c) s
/-- BIT 1,D -/
def execBit_1_d (s : State) : Result := bitLoc .b1 (.reg .d) s
/-- BIT 1,E -/
def execBit_1_e (s : State) : Result := bitLoc .b1 (.reg .e) s
/-- BIT 1,H -/
def execBit_1_h (s : State) : Result := bitLoc .b1 (.reg .h) s
/-- BIT 1,L -/
def execBit_1_l (s : State) : Result := bitLoc .b1 (.reg .l) s
/-- BIT 1,(HL) -/
def execBit_1_atHL (s : State) : Result := bitLoc .b1 .atHL s
/-- BIT 1,A -/
def execBit_1_a (s : State) : Result := bitLoc .b1 (.reg .a) s
/-- BIT 2,B -/
def execBit_2_b (s : State) : Result := bitLoc .b2 (.reg .b) s
/-- BIT 2,C -/
def execBit_2_c (s : State) : Result := bitLoc .b2 (.reg .c) s
/-- BIT 2,D -/
def execBit_2_d (s : State) : Result := bitLoc .b2 (.reg .d) s
/-- BIT 2,E -/
def execBit_2_e (s : State) : Result := bitLoc .b2 (.reg .e) s
/-- BIT 2,H -/
def execBit_2_h (s : State) : Result := bitLoc .b2 (.reg .h) s
/-- BIT 2,L -/
def execBit_2_l (s : State) : Result := bitLoc .b2 (.reg .l) s
/-- BIT 2,(HL) -/
def execBit_2_atHL (s : State) : Result := bitLoc .b2 .atHL s
/-- BIT 2,A -/
def execBit_2_a (s : State) : Result := bitLoc .b2 (.reg .a) s
/-- BIT 3,B -/
def execBit_3_b (s : State) : Result := bitLoc .b3 (.reg .b) s
/-- BIT 3,C -/
def execBit_3_c (s : State) : Result := bitLoc .b3 (.reg .c) s
/-- BIT 3,D -/
def execBit_3_d (s : State) : Result := bitLoc .b3 (.reg .d) s
/-- BIT 3,E -/
def execBit_3_e (s : State) : Result := bitLoc .b3 (.reg .e) s
/-- BIT 3,H -/
def execBit_3_h (s : State) : Result := bitLoc .b3 (.reg .h) s
/-- BIT 3,L -/
def execBit_3_l (s : State) : Result := bitLoc .b3 (.reg .l) s
/-- BIT 3,(HL) -/
def execBit_3_atHL (s : State) : Result := bitLoc .b3 .atHL s
/-- BIT 3,A -/
def execBit_3_a (s : State) : Result := bitLoc .b3 (.reg .a) s
/-- BIT 4,B -/
def execBit_4_b (s : State) : Result := bitLoc .b4 (.reg .b) s
/-- BIT 4,C -/
def execBit_4_c (s : State) : Result := bitLoc .b4 (.reg .c) s
/-- BIT 4,D -/
def execBit_4_d (s : State) : Result := bitLoc .b4 (.reg .d) s
/-- BIT 4,E -/
def execBit_4_e (s : State) : Result := bitLoc .b4 (.reg .e) s
/-- BIT 4,H -/
def execBit_4_h (s : State) : Result := bitLoc .b4 (.reg .h) s
/-- BIT 4,L -/
def execBit_4_l (s : State) : Result := bitLoc .b4 (.reg .l) s
/-- BIT 4,(HL) -/
def execBit_4_atHL (s : State) : Result := bitLoc .b4 .atHL s
/-- BIT 4,A -/
def execBit_4_a (s : State) : Result := bitLoc .b4 (.reg .a) s
/-- BIT 5,B -/
def execBit_5_b (s : State) : Result := bitLoc .b5 (.reg .b) s
/-- BIT 5,C -/
def execBit_5_c (s : State) : Result := bitLoc .b5 (.reg .c) s
/-- BIT 5,D -/
def execBit_5_d (s : State) : Result := bitLoc .b5 (.reg .d) s
/-- BIT 5,E -/
def execBit_5_e (s : State) : Result := bitLoc .b5 (.reg .e) s
/-- BIT 5,H -/
def execBit_5_h (s : State) : Result := bitLoc .b5 (.reg .h) s
/-- BIT 5,L -/
def execBit_5_l (s : State) : Result := bitLoc .b5 (.reg .l) s
/-- BIT 5,(HL) -/
def execBit_5_atHL (s : State) : Result := bitLoc .b5 .atHL s
/-- BIT 5,A -/
def execBit_5_a (s : State) : Result := bitLoc .b5 (.reg .a) s
/-- BIT 6,B -/
def execBit_6_b (s : State) : Result := bitLoc .b6 (.reg .b) s
/-- BIT 6,C -/
def execBit_6_c (s : State) : Result := bitLoc .b6 (.reg .c) s
/-- BIT 6,D -/
def execBit_6_d (s : State) : Result := bitLoc .b6 (.reg .d) s
/-- BIT 6,E -/
def execBit_6_e (s : State) : Result := bitLoc .b6 (.reg .e) s
/-- BIT 6,H -/
def execBit_6_h (s : State) : Result := bitLoc .b6 (.reg .h) s
/-- BIT 6,L -/
def execBit_6_l (s : State) : Result := bitLoc .b6 (.reg .l) s
/-- BIT 6,(HL) -/
def execBit_6_atHL (s : State) : Result := bitLoc .b6 .atHL s
/-- BIT 6,A -/
def execBit_6_a (s : State) : Result := bitLoc .b6 (.reg .a) s
/-- BIT 7,B -/
def execBit_7_b (s : State) : Result := bitLoc .b7 (.reg .b) s
/-- BIT 7,C -/
def execBit_7_c (s : State) : Result := bitLoc .b7 (.reg .c) s
/-- BIT 7,D -/
def execBit_7_d (s : State) : Result := bitLoc .b7 (.reg .d) s
/-- BIT 7,E -/
def execBit_7_e (s : State) : Result := bitLoc .b7 (.reg .e) s
/-- BIT 7,H -/
def execBit_7_h (s : State) : Result := bitLoc .b7 (.reg .h) s
/-- BIT 7,L -/
def execBit_7_l (s : State) : Result := bitLoc .b7 (.reg .l) s
/-- BIT 7,(HL) -/
def execBit_7_atHL (s : State) : Result := bitLoc .b7 .atHL s
/-- BIT 7,A -/
def execBit_7_a (s : State) : Result := bitLoc .b7 (.reg .a) s

/-! R284. -/
/-- RES 0,B -/
def execRes_0_b (s : State) : Result := resLoc .b0 (.reg .b) s
/-- RES 0,C -/
def execRes_0_c (s : State) : Result := resLoc .b0 (.reg .c) s
/-- RES 0,D -/
def execRes_0_d (s : State) : Result := resLoc .b0 (.reg .d) s
/-- RES 0,E -/
def execRes_0_e (s : State) : Result := resLoc .b0 (.reg .e) s
/-- RES 0,H -/
def execRes_0_h (s : State) : Result := resLoc .b0 (.reg .h) s
/-- RES 0,L -/
def execRes_0_l (s : State) : Result := resLoc .b0 (.reg .l) s
/-- RES 0,(HL) -/
def execRes_0_atHL (s : State) : Result := resLoc .b0 .atHL s
/-- RES 0,A -/
def execRes_0_a (s : State) : Result := resLoc .b0 (.reg .a) s
/-- RES 1,B -/
def execRes_1_b (s : State) : Result := resLoc .b1 (.reg .b) s
/-- RES 1,C -/
def execRes_1_c (s : State) : Result := resLoc .b1 (.reg .c) s
/-- RES 1,D -/
def execRes_1_d (s : State) : Result := resLoc .b1 (.reg .d) s
/-- RES 1,E -/
def execRes_1_e (s : State) : Result := resLoc .b1 (.reg .e) s
/-- RES 1,H -/
def execRes_1_h (s : State) : Result := resLoc .b1 (.reg .h) s
/-- RES 1,L -/
def execRes_1_l (s : State) : Result := resLoc .b1 (.reg .l) s
/-- RES 1,(HL) -/
def execRes_1_atHL (s : State) : Result := resLoc .b1 .atHL s
/-- RES 1,A -/
def execRes_1_a (s : State) : Result := resLoc .b1 (.reg .a) s
/-- RES 2,B -/
def execRes_2_b (s : State) : Result := resLoc .b2 (.reg .b) s
/-- RES 2,C -/
def execRes_2_c (s : State) : Result := resLoc .b2 (.reg .c) s
/-- RES 2,D -/
def execRes_2_d (s : State) : Result := resLoc .b2 (.reg .d) s
/-- RES 2,E -/
def execRes_2_e (s : State) : Result := resLoc .b2 (.reg .e) s
/-- RES 2,H -/
def execRes_2_h (s : State) : Result := resLoc .b2 (.reg .h) s
/-- RES 2,L -/
def execRes_2_l (s : State) : Result := resLoc .b2 (.reg .l) s
/-- RES 2,(HL) -/
def execRes_2_atHL (s : State) : Result := resLoc .b2 .atHL s
/-- RES 2,A -/
def execRes_2_a (s : State) : Result := resLoc .b2 (.reg .a) s
/-- RES 3,B -/
def execRes_3_b (s : State) : Result := resLoc .b3 (.reg .b) s
/-- RES 3,C -/
def execRes_3_c (s : State) : Result := resLoc .b3 (.reg .c) s
/-- RES 3,D -/
def execRes_3_d (s : State) : Result := resLoc .b3 (.reg .d) s
/-- RES 3,E -/
def execRes_3_e (s : State) : Result := resLoc .b3 (.reg .e) s
/-- RES 3,H -/
def execRes_3_h (s : State) : Result := resLoc .b3 (.reg .h) s
/-- RES 3,L -/
def execRes_3_l (s : State) : Result := resLoc .b3 (.reg .l) s
/-- RES 3,(HL) -/
def execRes_3_atHL (s : State) : Result := resLoc .b3 .atHL s
/-- RES 3,A -/
def execRes_3_a (s : State) : Result := resLoc .b3 (.reg .a) s
/-- RES 4,B -/
def execRes_4_b (s : State) : Result := resLoc .b4 (.reg .b) s
/-- RES 4,C -/
def execRes_4_c (s : State) : Result := resLoc .b4 (.reg .c) s
/-- RES 4,D -/
def execRes_4_d (s : State) : Result := resLoc .b4 (.reg .d) s
/-- RES 4,E -/
def execRes_4_e (s : State) : Result := resLoc .b4 (.reg .e) s
/-- RES 4,H -/
def execRes_4_h (s : State) : Result := resLoc .b4 (.reg .h) s
/-- RES 4,L -/
def execRes_4_l (s : State) : Result := resLoc .b4 (.reg .l) s
/-- RES 4,(HL) -/
def execRes_4_atHL (s : State) : Result := resLoc .b4 .atHL s
/-- RES 4,A -/
def execRes_4_a (s : State) : Result := resLoc .b4 (.reg .a) s
/-- RES 5,B -/
def execRes_5_b (s : State) : Result := resLoc .b5 (.reg .b) s
/-- RES 5,C -/
def execRes_5_c (s : State) : Result := resLoc .b5 (.reg .c) s
/-- RES 5,D -/
def execRes_5_d (s : State) : Result := resLoc .b5 (.reg .d) s
/-- RES 5,E -/
def execRes_5_e (s : State) : Result := resLoc .b5 (.reg .e) s
/-- RES 5,H -/
def execRes_5_h (s : State) : Result := resLoc .b5 (.reg .h) s
/-- RES 5,L -/
def execRes_5_l (s : State) : Result := resLoc .b5 (.reg .l) s
/-- RES 5,(HL) -/
def execRes_5_atHL (s : State) : Result := resLoc .b5 .atHL s
/-- RES 5,A -/
def execRes_5_a (s : State) : Result := resLoc .b5 (.reg .a) s
/-- RES 6,B -/
def execRes_6_b (s : State) : Result := resLoc .b6 (.reg .b) s
/-- RES 6,C -/
def execRes_6_c (s : State) : Result := resLoc .b6 (.reg .c) s
/-- RES 6,D -/
def execRes_6_d (s : State) : Result := resLoc .b6 (.reg .d) s
/-- RES 6,E -/
def execRes_6_e (s : State) : Result := resLoc .b6 (.reg .e) s
/-- RES 6,H -/
def execRes_6_h (s : State) : Result := resLoc .b6 (.reg .h) s
/-- RES 6,L -/
def execRes_6_l (s : State) : Result := resLoc .b6 (.reg .l) s
/-- RES 6,(HL) -/
def execRes_6_atHL (s : State) : Result := resLoc .b6 .atHL s
/-- RES 6,A -/
def execRes_6_a (s : State) : Result := resLoc .b6 (.reg .a) s
/-- RES 7,B -/
def execRes_7_b (s : State) : Result := resLoc .b7 (.reg .b) s
/-- RES 7,C -/
def execRes_7_c (s : State) : Result := resLoc .b7 (.reg .c) s
/-- RES 7,D -/
def execRes_7_d (s : State) : Result := resLoc .b7 (.reg .d) s
/-- RES 7,E -/
def execRes_7_e (s : State) : Result := resLoc .b7 (.reg .e) s
/-- RES 7,H -/
def execRes_7_h (s : State) : Result := resLoc .b7 (.reg .h) s
/-- RES 7,L -/
def execRes_7_l (s : State) : Result := resLoc .b7 (.reg .l) s
/-- RES 7,(HL) -/
def execRes_7_atHL (s : State) : Result := resLoc .b7 .atHL s
/-- RES 7,A -/
def execRes_7_a (s : State) : Result := resLoc .b7 (.reg .a) s

/-! R285. -/
/-- SET 0,B -/
def execSet_0_b (s : State) : Result := setLoc .b0 (.reg .b) s
/-- SET 0,C -/
def execSet_0_c (s : State) : Result := setLoc .b0 (.reg .c) s
/-- SET 0,D -/
def execSet_0_d (s : State) : Result := setLoc .b0 (.reg .d) s
/-- SET 0,E -/
def execSet_0_e (s : State) : Result := setLoc .b0 (.reg .e) s
/-- SET 0,H -/
def execSet_0_h (s : State) : Result := setLoc .b0 (.reg .h) s
/-- SET 0,L -/
def execSet_0_l (s : State) : Result := setLoc .b0 (.reg .l) s
/-- SET 0,(HL) -/
def execSet_0_atHL (s : State) : Result := setLoc .b0 .atHL s
/-- SET 0,A -/
def execSet_0_a (s : State) : Result := setLoc .b0 (.reg .a) s
/-- SET 1,B -/
def execSet_1_b (s : State) : Result := setLoc .b1 (.reg .b) s
/-- SET 1,C -/
def execSet_1_c (s : State) : Result := setLoc .b1 (.reg .c) s
/-- SET 1,D -/
def execSet_1_d (s : State) : Result := setLoc .b1 (.reg .d) s
/-- SET 1,E -/
def execSet_1_e (s : State) : Result := setLoc .b1 (.reg .e) s
/-- SET 1,H -/
def execSet_1_h (s : State) : Result := setLoc .b1 (.reg .h) s
/-- SET 1,L -/
def execSet_1_l (s : State) : Result := setLoc .b1 (.reg .l) s
/-- SET 1,(HL) -/
def execSet_1_atHL (s : State) : Result := setLoc .b1 .atHL s
/-- SET 1,A -/
def execSet_1_a (s : State) : Result := setLoc .b1 (.reg .a) s
/-- SET 2,B -/
def execSet_2_b (s : State) : Result := setLoc .b2 (.reg .b) s
/-- SET 2,C -/
def execSet_2_c (s : State) : Result := setLoc .b2 (.reg .c) s
/-- SET 2,D -/
def execSet_2_d (s : State) : Result := setLoc .b2 (.reg .d) s
/-- SET 2,E -/
def execSet_2_e (s : State) : Result := setLoc .b2 (.reg .e) s
/-- SET 2,H -/
def execSet_2_h (s : State) : Result := setLoc .b2 (.reg .h) s
/-- SET 2,L -/
def execSet_2_l (s : State) : Result := setLoc .b2 (.reg .l) s
/-- SET 2,(HL) -/
def execSet_2_atHL (s : State) : Result := setLoc .b2 .atHL s
/-- SET 2,A -/
def execSet_2_a (s : State) : Result := setLoc .b2 (.reg .a) s
/-- SET 3,B -/
def execSet_3_b (s : State) : Result := setLoc .b3 (.reg .b) s
/-- SET 3,C -/
def execSet_3_c (s : State) : Result := setLoc .b3 (.reg .c) s
/-- SET 3,D -/
def execSet_3_d (s : State) : Result := setLoc .b3 (.reg .d) s
/-- SET 3,E -/
def execSet_3_e (s : State) : Result := setLoc .b3 (.reg .e) s
/-- SET 3,H -/
def execSet_3_h (s : State) : Result := setLoc .b3 (.reg .h) s
/-- SET 3,L -/
def execSet_3_l (s : State) : Result := setLoc .b3 (.reg .l) s
/-- SET 3,(HL) -/
def execSet_3_atHL (s : State) : Result := setLoc .b3 .atHL s
/-- SET 3,A -/
def execSet_3_a (s : State) : Result := setLoc .b3 (.reg .a) s
/-- SET 4,B -/
def execSet_4_b (s : State) : Result := setLoc .b4 (.reg .b) s
/-- SET 4,C -/
def execSet_4_c (s : State) : Result := setLoc .b4 (.reg .c) s
/-- SET 4,D -/
def execSet_4_d (s : State) : Result := setLoc .b4 (.reg .d) s
/-- SET 4,E -/
def execSet_4_e (s : State) : Result := setLoc .b4 (.reg .e) s
/-- SET 4,H -/
def execSet_4_h (s : State) : Result := setLoc .b4 (.reg .h) s
/-- SET 4,L -/
def execSet_4_l (s : State) : Result := setLoc .b4 (.reg .l) s
/-- SET 4,(HL) -/
def execSet_4_atHL (s : State) : Result := setLoc .b4 .atHL s
/-- SET 4,A -/
def execSet_4_a (s : State) : Result := setLoc .b4 (.reg .a) s
/-- SET 5,B -/
def execSet_5_b (s : State) : Result := setLoc .b5 (.reg .b) s
/-- SET 5,C -/
def execSet_5_c (s : State) : Result := setLoc .b5 (.reg .c) s
/-- SET 5,D -/
def execSet_5_d (s : State) : Result := setLoc .b5 (.reg .d) s
/-- SET 5,E -/
def execSet_5_e (s : State) : Result := setLoc .b5 (.reg .e) s
/-- SET 5,H -/
def execSet_5_h (s : State) : Result := setLoc .b5 (.reg .h) s
/-- SET 5,L -/
def execSet_5_l (s : State) : Result := setLoc .b5 (.reg .l) s
/-- SET 5,(HL) -/
def execSet_5_atHL (s : State) : Result := setLoc .b5 .atHL s
/-- SET 5,A -/
def execSet_5_a (s : State) : Result := setLoc .b5 (.reg .a) s
/-- SET 6,B -/
def execSet_6_b (s : State) : Result := setLoc .b6 (.reg .b) s
/-- SET 6,C -/
def execSet_6_c (s : State) : Result := setLoc .b6 (.reg .c) s
/-- SET 6,D -/
def execSet_6_d (s : State) : Result := setLoc .b6 (.reg .d) s
/-- SET 6,E -/
def execSet_6_e (s : State) : Result := setLoc .b6 (.reg .e) s
/-- SET 6,H -/
def execSet_6_h (s : State) : Result := setLoc .b6 (.reg .h) s
/-- SET 6,L -/
def execSet_6_l (s : State) : Result := setLoc .b6 (.reg .l) s
/-- SET 6,(HL) -/
def execSet_6_atHL (s : State) : Result := setLoc .b6 .atHL s
/-- SET 6,A -/
def execSet_6_a (s : State) : Result := setLoc .b6 (.reg .a) s
/-- SET 7,B -/
def execSet_7_b (s : State) : Result := setLoc .b7 (.reg .b) s
/-- SET 7,C -/
def execSet_7_c (s : State) : Result := setLoc .b7 (.reg .c) s
/-- SET 7,D -/
def execSet_7_d (s : State) : Result := setLoc .b7 (.reg .d) s
/-- SET 7,E -/
def execSet_7_e (s : State) : Result := setLoc .b7 (.reg .e) s
/-- SET 7,H -/
def execSet_7_h (s : State) : Result := setLoc .b7 (.reg .h) s
/-- SET 7,L -/
def execSet_7_l (s : State) : Result := setLoc .b7 (.reg .l) s
/-- SET 7,(HL) -/
def execSet_7_atHL (s : State) : Result := setLoc .b7 .atHL s
/-- SET 7,A -/
def execSet_7_a (s : State) : Result := setLoc .b7 (.reg .a) s

end Sys2Proof.Machine
end

