-- ==== Sys2Proof/Machine/Control.lean ====
section
/-!
DEFINITION. Control transfer (spec/44_control.md). PC is past the whole instruction when a meaning starts.
-/

namespace Sys2Proof.Machine

/-- JP a16 (R301). -/
def jump (a16 : Word) (s : State) : Result := done 16 (s.setPc a16)

/-- JP cc,a16 (R302). -/
def jumpIf (cc : Cond) (a16 : Word) (s : State) : Result :=
  if s.cpu.f.holds cc then done 16 (s.setPc a16) else done 12 s

/-- JP HL (R303): HL itself, not memory at HL. -/
def jumpHl (s : State) : Result := done 4 (s.setPc s.cpu.hl)

/-- JR e8 (R304). -/
def jumpRel (e8 : Byte) (s : State) : Result := done 12 (s.setPc (s.cpu.pc + sext8 e8))

/-- JR cc,e8 (R305). -/
def jumpRelIf (cc : Cond) (e8 : Byte) (s : State) : Result :=
  if s.cpu.f.holds cc then done 12 (s.setPc (s.cpu.pc + sext8 e8)) else done 8 s

/-- CALL a16 (R306). -/
def callTo (a16 : Word) (s : State) : Result := done 24 ((s.push16 s.cpu.pc).setPc a16)

/-- CALL cc,a16 (R307). -/
def callIf (cc : Cond) (a16 : Word) (s : State) : Result :=
  if s.cpu.f.holds cc then done 24 ((s.push16 s.cpu.pc).setPc a16) else done 12 s

/-- RET (R308). -/
def returnTo (s : State) : Result := done 16 (s.dropTop.setPc s.top16)

/-- RET cc (R309). -/
def returnIf (cc : Cond) (s : State) : Result :=
  if s.cpu.f.holds cc then done 20 (s.dropTop.setPc s.top16) else done 8 s

/-- RETI (R310). -/
def returnInterrupt (s : State) : Result := done 16 s.returnFromInterrupt

/-- The target of RST, `8 * t` (R311). -/
def restartTarget (t : BitIdx) : Word := BitVec.ofNat 16 (8 * t.toNat)

/-- RST t (R311). -/
def restart (t : BitIdx) (s : State) : Result := done 16 ((s.push16 s.cpu.pc).setPc (restartTarget t))

/-! ### The meanings, one for each row of the table -/

/-! R301. -/
/-- JP a16 -/
def execJp_a16 (a16 : Word) (s : State) : Result := jump a16 s

/-! R302. -/
/-- JP NZ,a16 -/
def execJp_nz_a16 (a16 : Word) (s : State) : Result := jumpIf .nz a16 s
/-- JP Z,a16 -/
def execJp_z_a16 (a16 : Word) (s : State) : Result := jumpIf .z a16 s
/-- JP NC,a16 -/
def execJp_nc_a16 (a16 : Word) (s : State) : Result := jumpIf .nc a16 s
/-- JP C,a16 -/
def execJp_c_a16 (a16 : Word) (s : State) : Result := jumpIf .c a16 s

/-! R303. -/
/-- JP HL -/
def execJp_hl (s : State) : Result := jumpHl s

/-! R304. -/
/-- JR e8 -/
def execJr_e8 (e8 : Byte) (s : State) : Result := jumpRel e8 s

/-! R305. -/
/-- JR NZ,e8 -/
def execJr_nz_e8 (e8 : Byte) (s : State) : Result := jumpRelIf .nz e8 s
/-- JR Z,e8 -/
def execJr_z_e8 (e8 : Byte) (s : State) : Result := jumpRelIf .z e8 s
/-- JR NC,e8 -/
def execJr_nc_e8 (e8 : Byte) (s : State) : Result := jumpRelIf .nc e8 s
/-- JR C,e8 -/
def execJr_c_e8 (e8 : Byte) (s : State) : Result := jumpRelIf .c e8 s

/-! R306. -/
/-- CALL a16 -/
def execCall_a16 (a16 : Word) (s : State) : Result := callTo a16 s

/-! R307. -/
/-- CALL NZ,a16 -/
def execCall_nz_a16 (a16 : Word) (s : State) : Result := callIf .nz a16 s
/-- CALL Z,a16 -/
def execCall_z_a16 (a16 : Word) (s : State) : Result := callIf .z a16 s
/-- CALL NC,a16 -/
def execCall_nc_a16 (a16 : Word) (s : State) : Result := callIf .nc a16 s
/-- CALL C,a16 -/
def execCall_c_a16 (a16 : Word) (s : State) : Result := callIf .c a16 s

/-! R308. -/
/-- RET -/
def execRet (s : State) : Result := returnTo s

/-! R309. -/
/-- RET NZ -/
def execRet_nz (s : State) : Result := returnIf .nz s
/-- RET Z -/
def execRet_z (s : State) : Result := returnIf .z s
/-- RET NC -/
def execRet_nc (s : State) : Result := returnIf .nc s
/-- RET C -/
def execRet_c (s : State) : Result := returnIf .c s

/-! R310. -/
/-- RETI -/
def execReti (s : State) : Result := returnInterrupt s

/-! R311. -/
/-- RST 0x00 -/
def execRst_00 (s : State) : Result := restart .b0 s
/-- RST 0x08 -/
def execRst_08 (s : State) : Result := restart .b1 s
/-- RST 0x10 -/
def execRst_10 (s : State) : Result := restart .b2 s
/-- RST 0x18 -/
def execRst_18 (s : State) : Result := restart .b3 s
/-- RST 0x20 -/
def execRst_20 (s : State) : Result := restart .b4 s
/-- RST 0x28 -/
def execRst_28 (s : State) : Result := restart .b5 s
/-- RST 0x30 -/
def execRst_30 (s : State) : Result := restart .b6 s
/-- RST 0x38 -/
def execRst_38 (s : State) : Result := restart .b7 s

end Sys2Proof.Machine
end

