-- ==== Sys2Proof/Machine/Load.lean ====
section
/-!
DEFINITION. Loads, stores and stack transfers (spec/40_load.md). No instruction here writes a flag but POP AF and
LD HL,SP+e8.
-/

namespace Sys2Proof.Machine

/-- LD r,r' (R170). -/
def ldRegReg (dst src : R8) (s : State) : Result := done 4 (s.setReg dst (s.reg src))

/-- LD r,n8 (R171). -/
def ldRegImm (dst : R8) (n8 : Byte) (s : State) : Result := done 8 (s.setReg dst n8)

/-- LD r,(HL) (R172): the address is taken before the write. -/
def ldRegMem (dst : R8) (s : State) : Result := done 8 (s.setReg dst (s.read s.cpu.hl))

/-- LD (HL),r (R173). -/
def ldMemReg (r : R8) (s : State) : Result := done 8 (s.write s.cpu.hl (s.reg r))

/-- LD (HL),n8 (R174). -/
def ldMemImm (n8 : Byte) (s : State) : Result := done 12 (s.write s.cpu.hl n8)

/-- LD A,(…) and LDH A,(…) (R175, R176, R179, R181, R183, R185, R186): the access, then the change of HL. -/
def ldToA (m : Addr) (s : State) : Result := done m.cost ((s.setReg .a (s.read (s.addrOf m))).afterAccess m)

/-- LD (…),A and LDH (…),A (R177, R178, R180, R182, R184, R187, R188): the store, then the change of HL. -/
def ldFromA (m : Addr) (s : State) : Result := done m.cost ((s.write (s.addrOf m) s.cpu.a).afterAccess m)

/-- LD rr,n16 (R189). -/
def ldPairImm (p : Rp) (n16 : Word) (s : State) : Result := done 12 (s.setCpu (s.cpu.setPair p n16))

/-- LD (a16),SP (R190): the low byte, then the high byte at the next address. -/
def ldMemSp (a16 : Word) (s : State) : Result :=
  done 20 ((s.write a16 (lo s.cpu.sp)).write (a16 + 1) (hi s.cpu.sp))

/-- LD SP,HL (R191). -/
def ldSpHl (s : State) : Result := done 8 (s.setSp s.cpu.hl)

/-- LD HL,SP+e8 (R192). -/
def ldHlSp (e8 : Byte) (s : State) : Result :=
  let r := spAdd s.config.spOffsetFlags s.cpu.sp e8
  done 12 ((s.setCpu (s.cpu.setHl r.1)).setFlags r.2)

/-- PUSH rr (R193). -/
def pushPair (p : Rp2) (s : State) : Result := done 16 (s.push16 (s.cpu.stackPair p))

/-- POP rr and POP AF (R194, R195). -/
def popPair (p : Rp2) (s : State) : Result :=
  let t := s.dropTop
  done 12 (t.setCpu (t.cpu.setStackPair p s.top16))

/-! ### The meanings, one for each row of the table -/

/-! R170. -/
/-- LD B,B -/
def execLd_b_b (s : State) : Result := ldRegReg .b .b s
/-- LD B,C -/
def execLd_b_c (s : State) : Result := ldRegReg .b .c s
/-- LD B,D -/
def execLd_b_d (s : State) : Result := ldRegReg .b .d s
/-- LD B,E -/
def execLd_b_e (s : State) : Result := ldRegReg .b .e s
/-- LD B,H -/
def execLd_b_h (s : State) : Result := ldRegReg .b .h s
/-- LD B,L -/
def execLd_b_l (s : State) : Result := ldRegReg .b .l s
/-- LD B,A -/
def execLd_b_a (s : State) : Result := ldRegReg .b .a s
/-- LD C,B -/
def execLd_c_b (s : State) : Result := ldRegReg .c .b s
/-- LD C,C -/
def execLd_c_c (s : State) : Result := ldRegReg .c .c s
/-- LD C,D -/
def execLd_c_d (s : State) : Result := ldRegReg .c .d s
/-- LD C,E -/
def execLd_c_e (s : State) : Result := ldRegReg .c .e s
/-- LD C,H -/
def execLd_c_h (s : State) : Result := ldRegReg .c .h s
/-- LD C,L -/
def execLd_c_l (s : State) : Result := ldRegReg .c .l s
/-- LD C,A -/
def execLd_c_a (s : State) : Result := ldRegReg .c .a s
/-- LD D,B -/
def execLd_d_b (s : State) : Result := ldRegReg .d .b s
/-- LD D,C -/
def execLd_d_c (s : State) : Result := ldRegReg .d .c s
/-- LD D,D -/
def execLd_d_d (s : State) : Result := ldRegReg .d .d s
/-- LD D,E -/
def execLd_d_e (s : State) : Result := ldRegReg .d .e s
/-- LD D,H -/
def execLd_d_h (s : State) : Result := ldRegReg .d .h s
/-- LD D,L -/
def execLd_d_l (s : State) : Result := ldRegReg .d .l s
/-- LD D,A -/
def execLd_d_a (s : State) : Result := ldRegReg .d .a s
/-- LD E,B -/
def execLd_e_b (s : State) : Result := ldRegReg .e .b s
/-- LD E,C -/
def execLd_e_c (s : State) : Result := ldRegReg .e .c s
/-- LD E,D -/
def execLd_e_d (s : State) : Result := ldRegReg .e .d s
/-- LD E,E -/
def execLd_e_e (s : State) : Result := ldRegReg .e .e s
/-- LD E,H -/
def execLd_e_h (s : State) : Result := ldRegReg .e .h s
/-- LD E,L -/
def execLd_e_l (s : State) : Result := ldRegReg .e .l s
/-- LD E,A -/
def execLd_e_a (s : State) : Result := ldRegReg .e .a s
/-- LD H,B -/
def execLd_h_b (s : State) : Result := ldRegReg .h .b s
/-- LD H,C -/
def execLd_h_c (s : State) : Result := ldRegReg .h .c s
/-- LD H,D -/
def execLd_h_d (s : State) : Result := ldRegReg .h .d s
/-- LD H,E -/
def execLd_h_e (s : State) : Result := ldRegReg .h .e s
/-- LD H,H -/
def execLd_h_h (s : State) : Result := ldRegReg .h .h s
/-- LD H,L -/
def execLd_h_l (s : State) : Result := ldRegReg .h .l s
/-- LD H,A -/
def execLd_h_a (s : State) : Result := ldRegReg .h .a s
/-- LD L,B -/
def execLd_l_b (s : State) : Result := ldRegReg .l .b s
/-- LD L,C -/
def execLd_l_c (s : State) : Result := ldRegReg .l .c s
/-- LD L,D -/
def execLd_l_d (s : State) : Result := ldRegReg .l .d s
/-- LD L,E -/
def execLd_l_e (s : State) : Result := ldRegReg .l .e s
/-- LD L,H -/
def execLd_l_h (s : State) : Result := ldRegReg .l .h s
/-- LD L,L -/
def execLd_l_l (s : State) : Result := ldRegReg .l .l s
/-- LD L,A -/
def execLd_l_a (s : State) : Result := ldRegReg .l .a s
/-- LD A,B -/
def execLd_a_b (s : State) : Result := ldRegReg .a .b s
/-- LD A,C -/
def execLd_a_c (s : State) : Result := ldRegReg .a .c s
/-- LD A,D -/
def execLd_a_d (s : State) : Result := ldRegReg .a .d s
/-- LD A,E -/
def execLd_a_e (s : State) : Result := ldRegReg .a .e s
/-- LD A,H -/
def execLd_a_h (s : State) : Result := ldRegReg .a .h s
/-- LD A,L -/
def execLd_a_l (s : State) : Result := ldRegReg .a .l s
/-- LD A,A -/
def execLd_a_a (s : State) : Result := ldRegReg .a .a s

/-! R171. -/
/-- LD B,n8 -/
def execLd_b_n8 (n8 : Byte) (s : State) : Result := ldRegImm .b n8 s
/-- LD C,n8 -/
def execLd_c_n8 (n8 : Byte) (s : State) : Result := ldRegImm .c n8 s
/-- LD D,n8 -/
def execLd_d_n8 (n8 : Byte) (s : State) : Result := ldRegImm .d n8 s
/-- LD E,n8 -/
def execLd_e_n8 (n8 : Byte) (s : State) : Result := ldRegImm .e n8 s
/-- LD H,n8 -/
def execLd_h_n8 (n8 : Byte) (s : State) : Result := ldRegImm .h n8 s
/-- LD L,n8 -/
def execLd_l_n8 (n8 : Byte) (s : State) : Result := ldRegImm .l n8 s
/-- LD A,n8 -/
def execLd_a_n8 (n8 : Byte) (s : State) : Result := ldRegImm .a n8 s

/-! R172. -/
/-- LD B,(HL) -/
def execLd_b_atHL (s : State) : Result := ldRegMem .b s
/-- LD C,(HL) -/
def execLd_c_atHL (s : State) : Result := ldRegMem .c s
/-- LD D,(HL) -/
def execLd_d_atHL (s : State) : Result := ldRegMem .d s
/-- LD E,(HL) -/
def execLd_e_atHL (s : State) : Result := ldRegMem .e s
/-- LD H,(HL) -/
def execLd_h_atHL (s : State) : Result := ldRegMem .h s
/-- LD L,(HL) -/
def execLd_l_atHL (s : State) : Result := ldRegMem .l s
/-- LD A,(HL) -/
def execLd_a_atHL (s : State) : Result := ldRegMem .a s

/-! R173. -/
/-- LD (HL),B -/
def execLd_atHL_b (s : State) : Result := ldMemReg .b s
/-- LD (HL),C -/
def execLd_atHL_c (s : State) : Result := ldMemReg .c s
/-- LD (HL),D -/
def execLd_atHL_d (s : State) : Result := ldMemReg .d s
/-- LD (HL),E -/
def execLd_atHL_e (s : State) : Result := ldMemReg .e s
/-- LD (HL),H -/
def execLd_atHL_h (s : State) : Result := ldMemReg .h s
/-- LD (HL),L -/
def execLd_atHL_l (s : State) : Result := ldMemReg .l s
/-- LD (HL),A -/
def execLd_atHL_a (s : State) : Result := ldMemReg .a s

/-! R174. -/
/-- LD (HL),n8 -/
def execLd_atHL_n8 (n8 : Byte) (s : State) : Result := ldMemImm n8 s

/-! R175. -/
/-- LD A,(BC) -/
def execLd_a_atBC (s : State) : Result := ldToA .bc s

/-! R176. -/
/-- LD A,(DE) -/
def execLd_a_atDE (s : State) : Result := ldToA .de s

/-! R177. -/
/-- LD (BC),A -/
def execLd_atBC_a (s : State) : Result := ldFromA .bc s

/-! R178. -/
/-- LD (DE),A -/
def execLd_atDE_a (s : State) : Result := ldFromA .de s

/-! R179. -/
/-- LD A,(a16) -/
def execLd_a_atA16 (a16 : Word) (s : State) : Result := ldToA (.abs a16) s

/-! R180. -/
/-- LD (a16),A -/
def execLd_atA16_a (a16 : Word) (s : State) : Result := ldFromA (.abs a16) s

/-! R181. -/
/-- LDH A,(a8) -/
def execLdh_a_atA8 (a8 : Byte) (s : State) : Result := ldToA (.high a8) s

/-! R182. -/
/-- LDH (a8),A -/
def execLdh_atA8_a (a8 : Byte) (s : State) : Result := ldFromA (.high a8) s

/-! R183. -/
/-- LDH A,(C) -/
def execLdh_a_atC (s : State) : Result := ldToA .highC s

/-! R184. -/
/-- LDH (C),A -/
def execLdh_atC_a (s : State) : Result := ldFromA .highC s

/-! R185. -/
/-- LD A,(HL+) -/
def execLd_a_atHLI (s : State) : Result := ldToA .hlInc s

/-! R186. -/
/-- LD A,(HL-) -/
def execLd_a_atHLD (s : State) : Result := ldToA .hlDec s

/-! R187. -/
/-- LD (HL+),A -/
def execLd_atHLI_a (s : State) : Result := ldFromA .hlInc s

/-! R188. -/
/-- LD (HL-),A -/
def execLd_atHLD_a (s : State) : Result := ldFromA .hlDec s

/-! R189. -/
/-- LD BC,n16 -/
def execLd_bc_n16 (n16 : Word) (s : State) : Result := ldPairImm .bc n16 s
/-- LD DE,n16 -/
def execLd_de_n16 (n16 : Word) (s : State) : Result := ldPairImm .de n16 s
/-- LD HL,n16 -/
def execLd_hl_n16 (n16 : Word) (s : State) : Result := ldPairImm .hl n16 s
/-- LD SP,n16 -/
def execLd_sp_n16 (n16 : Word) (s : State) : Result := ldPairImm .sp n16 s

/-! R190. -/
/-- LD (a16),SP -/
def execLd_atA16_sp (a16 : Word) (s : State) : Result := ldMemSp a16 s

/-! R191. -/
/-- LD SP,HL -/
def execLd_sp_hl (s : State) : Result := ldSpHl s

/-! R192. -/
/-- LD HL,SP+e8 -/
def execLd_hl_sp_e8 (e8 : Byte) (s : State) : Result := ldHlSp e8 s

/-! R193. -/
/-- PUSH BC -/
def execPush_bc (s : State) : Result := pushPair .bc s
/-- PUSH DE -/
def execPush_de (s : State) : Result := pushPair .de s
/-- PUSH HL -/
def execPush_hl (s : State) : Result := pushPair .hl s
/-- PUSH AF -/
def execPush_af (s : State) : Result := pushPair .af s

/-! R194. -/
/-- POP BC -/
def execPop_bc (s : State) : Result := popPair .bc s
/-- POP DE -/
def execPop_de (s : State) : Result := popPair .de s
/-- POP HL -/
def execPop_hl (s : State) : Result := popPair .hl s

/-! R195. -/
/-- POP AF -/
def execPop_af (s : State) : Result := popPair .af s

end Sys2Proof.Machine
end

