-- ==== Sys2Proof/Decode.lean ====
section
/-!
DEFINITION. Decoding (spec/30_encoding.md): the operand fields, the two tables as functions of the fields x, y, z, p, q of
R141, a decoder that is total on any bytes and rejects by name, and after it the encoder, written row by row from the opcode
table. The functions that build an instruction from its operands are shared by the decoder and by the statements.
-/

namespace Sys2Proof

/-! ### Operand fields -/

/-- The field `r`: a register, or nothing for the value 6, which names the byte at HL (R142). -/
def regField (z : Nat) : Option R8 :=
  match z with
  | 0 => some .b
  | 1 => some .c
  | 2 => some .d
  | 3 => some .e
  | 4 => some .h
  | 5 => some .l
  | 6 => none
  | _ => some .a

/-- The pair field of table `rp` (R143). -/
def rpField (p : Nat) : Rp :=
  match p with
  | 0 => .bc
  | 1 => .de
  | 2 => .hl
  | _ => .sp

/-- The pair field of table `rp2` (R143). -/
def rp2Field (p : Nat) : Rp2 :=
  match p with
  | 0 => .bc
  | 1 => .de
  | 2 => .hl
  | _ => .af

/-- The condition field (R144). -/
def condField (cc : Nat) : Cond :=
  match cc with
  | 0 => .nz
  | 1 => .z
  | 2 => .nc
  | _ => .c

/-- The bit-index and RST field (R145). -/
def bitField (y : Nat) : BitIdx :=
  match y with
  | 0 => .b0
  | 1 => .b1
  | 2 => .b2
  | 3 => .b3
  | 4 => .b4
  | 5 => .b5
  | 6 => .b6
  | _ => .b7

/-- The ALU operation of the field `y` (spec/41_alu8.md R210). -/
def aluField (y : Nat) : AluOp :=
  match y with
  | 0 => .add
  | 1 => .adc
  | 2 => .sub
  | 3 => .sbc
  | 4 => .and
  | 5 => .xor
  | 6 => .or
  | _ => .cp

/-- The rotate or shift of the field `y` (R148). -/
def rotField (y : Nat) : RotOp :=
  match y with
  | 0 => .rlc
  | 1 => .rrc
  | 2 => .rl
  | 3 => .rr
  | 4 => .sla
  | 5 => .sra
  | 6 => .swap
  | _ => .srl

/-! ### Instructions by operand -/

/-- LD r,r' (R170). -/
def ldRegRegI : R8 → R8 → Instr
  | .b, .b => .ld_b_b
  | .b, .c => .ld_b_c
  | .b, .d => .ld_b_d
  | .b, .e => .ld_b_e
  | .b, .h => .ld_b_h
  | .b, .l => .ld_b_l
  | .b, .a => .ld_b_a
  | .c, .b => .ld_c_b
  | .c, .c => .ld_c_c
  | .c, .d => .ld_c_d
  | .c, .e => .ld_c_e
  | .c, .h => .ld_c_h
  | .c, .l => .ld_c_l
  | .c, .a => .ld_c_a
  | .d, .b => .ld_d_b
  | .d, .c => .ld_d_c
  | .d, .d => .ld_d_d
  | .d, .e => .ld_d_e
  | .d, .h => .ld_d_h
  | .d, .l => .ld_d_l
  | .d, .a => .ld_d_a
  | .e, .b => .ld_e_b
  | .e, .c => .ld_e_c
  | .e, .d => .ld_e_d
  | .e, .e => .ld_e_e
  | .e, .h => .ld_e_h
  | .e, .l => .ld_e_l
  | .e, .a => .ld_e_a
  | .h, .b => .ld_h_b
  | .h, .c => .ld_h_c
  | .h, .d => .ld_h_d
  | .h, .e => .ld_h_e
  | .h, .h => .ld_h_h
  | .h, .l => .ld_h_l
  | .h, .a => .ld_h_a
  | .l, .b => .ld_l_b
  | .l, .c => .ld_l_c
  | .l, .d => .ld_l_d
  | .l, .e => .ld_l_e
  | .l, .h => .ld_l_h
  | .l, .l => .ld_l_l
  | .l, .a => .ld_l_a
  | .a, .b => .ld_a_b
  | .a, .c => .ld_a_c
  | .a, .d => .ld_a_d
  | .a, .e => .ld_a_e
  | .a, .h => .ld_a_h
  | .a, .l => .ld_a_l
  | .a, .a => .ld_a_a

/-- LD r,n8 (R171). -/
def ldRegImmI (n8 : Byte) : R8 → Instr
  | .b => .ld_b_n8 n8
  | .c => .ld_c_n8 n8
  | .d => .ld_d_n8 n8
  | .e => .ld_e_n8 n8
  | .h => .ld_h_n8 n8
  | .l => .ld_l_n8 n8
  | .a => .ld_a_n8 n8

/-- LD r,(HL) (R172). -/
def ldRegMemI : R8 → Instr
  | .b => .ld_b_atHL
  | .c => .ld_c_atHL
  | .d => .ld_d_atHL
  | .e => .ld_e_atHL
  | .h => .ld_h_atHL
  | .l => .ld_l_atHL
  | .a => .ld_a_atHL

/-- LD (HL),r (R173). -/
def ldMemRegI : R8 → Instr
  | .b => .ld_atHL_b
  | .c => .ld_atHL_c
  | .d => .ld_atHL_d
  | .e => .ld_atHL_e
  | .h => .ld_atHL_h
  | .l => .ld_atHL_l
  | .a => .ld_atHL_a

/-- LD rr,n16 (R189). -/
def ldPairImmI (n16 : Word) : Rp → Instr
  | .bc => .ld_bc_n16 n16
  | .de => .ld_de_n16 n16
  | .hl => .ld_hl_n16 n16
  | .sp => .ld_sp_n16 n16

/-- ADD HL,rr (R262). -/
def addHlI : Rp → Instr
  | .bc => .add_hl_bc
  | .de => .add_hl_de
  | .hl => .add_hl_hl
  | .sp => .add_hl_sp

/-- INC rr (R263). -/
def incPairI : Rp → Instr
  | .bc => .inc_bc
  | .de => .inc_de
  | .hl => .inc_hl
  | .sp => .inc_sp

/-- DEC rr (R264). -/
def decPairI : Rp → Instr
  | .bc => .dec_bc
  | .de => .dec_de
  | .hl => .dec_hl
  | .sp => .dec_sp

/-- PUSH rr (R193). -/
def pushI : Rp2 → Instr
  | .bc => .push_bc
  | .de => .push_de
  | .hl => .push_hl
  | .af => .push_af

/-- POP rr (R194, R195). -/
def popI : Rp2 → Instr
  | .bc => .pop_bc
  | .de => .pop_de
  | .hl => .pop_hl
  | .af => .pop_af

/-- INC r (R238). -/
def incRegI : R8 → Instr
  | .b => .inc_b
  | .c => .inc_c
  | .d => .inc_d
  | .e => .inc_e
  | .h => .inc_h
  | .l => .inc_l
  | .a => .inc_a

/-- DEC r (R240). -/
def decRegI : R8 → Instr
  | .b => .dec_b
  | .c => .dec_c
  | .d => .dec_d
  | .e => .dec_e
  | .h => .dec_h
  | .l => .dec_l
  | .a => .dec_a

/-- The ALU instructions on a register (R214-R235). -/
def aluRegI : AluOp → R8 → Instr
  | .add, .b => .add_a_b
  | .add, .c => .add_a_c
  | .add, .d => .add_a_d
  | .add, .e => .add_a_e
  | .add, .h => .add_a_h
  | .add, .l => .add_a_l
  | .add, .a => .add_a_a
  | .adc, .b => .adc_a_b
  | .adc, .c => .adc_a_c
  | .adc, .d => .adc_a_d
  | .adc, .e => .adc_a_e
  | .adc, .h => .adc_a_h
  | .adc, .l => .adc_a_l
  | .adc, .a => .adc_a_a
  | .sub, .b => .sub_b
  | .sub, .c => .sub_c
  | .sub, .d => .sub_d
  | .sub, .e => .sub_e
  | .sub, .h => .sub_h
  | .sub, .l => .sub_l
  | .sub, .a => .sub_a
  | .sbc, .b => .sbc_a_b
  | .sbc, .c => .sbc_a_c
  | .sbc, .d => .sbc_a_d
  | .sbc, .e => .sbc_a_e
  | .sbc, .h => .sbc_a_h
  | .sbc, .l => .sbc_a_l
  | .sbc, .a => .sbc_a_a
  | .and, .b => .and_b
  | .and, .c => .and_c
  | .and, .d => .and_d
  | .and, .e => .and_e
  | .and, .h => .and_h
  | .and, .l => .and_l
  | .and, .a => .and_a
  | .xor, .b => .xor_b
  | .xor, .c => .xor_c
  | .xor, .d => .xor_d
  | .xor, .e => .xor_e
  | .xor, .h => .xor_h
  | .xor, .l => .xor_l
  | .xor, .a => .xor_a
  | .or, .b => .or_b
  | .or, .c => .or_c
  | .or, .d => .or_d
  | .or, .e => .or_e
  | .or, .h => .or_h
  | .or, .l => .or_l
  | .or, .a => .or_a
  | .cp, .b => .cp_b
  | .cp, .c => .cp_c
  | .cp, .d => .cp_d
  | .cp, .e => .cp_e
  | .cp, .h => .cp_h
  | .cp, .l => .cp_l
  | .cp, .a => .cp_a

/-- The ALU instructions on the byte at HL (R215-R236). -/
def aluMemI : AluOp → Instr
  | .add => .add_a_atHL
  | .adc => .adc_a_atHL
  | .sub => .sub_atHL
  | .sbc => .sbc_a_atHL
  | .and => .and_atHL
  | .xor => .xor_atHL
  | .or => .or_atHL
  | .cp => .cp_atHL

/-- The ALU instructions on an immediate (R216-R237). -/
def aluImmI (n8 : Byte) : AluOp → Instr
  | .add => .add_a_n8 n8
  | .adc => .adc_a_n8 n8
  | .sub => .sub_n8 n8
  | .sbc => .sbc_a_n8 n8
  | .and => .and_n8 n8
  | .xor => .xor_n8 n8
  | .or => .or_n8 n8
  | .cp => .cp_n8 n8

/-- JP cc,a16 (R302). -/
def jpIfI (a16 : Word) : Cond → Instr
  | .nz => .jp_nz_a16 a16
  | .z => .jp_z_a16 a16
  | .nc => .jp_nc_a16 a16
  | .c => .jp_c_a16 a16

/-- JR cc,e8 (R305). -/
def jrIfI (e8 : Byte) : Cond → Instr
  | .nz => .jr_nz_e8 e8
  | .z => .jr_z_e8 e8
  | .nc => .jr_nc_e8 e8
  | .c => .jr_c_e8 e8

/-- CALL cc,a16 (R307). -/
def callIfI (a16 : Word) : Cond → Instr
  | .nz => .call_nz_a16 a16
  | .z => .call_z_a16 a16
  | .nc => .call_nc_a16 a16
  | .c => .call_c_a16 a16

/-- RET cc (R309). -/
def retIfI : Cond → Instr
  | .nz => .ret_nz
  | .z => .ret_z
  | .nc => .ret_nc
  | .c => .ret_c

/-- RST t (R311). -/
def rstI : BitIdx → Instr
  | .b0 => .rst_00
  | .b1 => .rst_08
  | .b2 => .rst_10
  | .b3 => .rst_18
  | .b4 => .rst_20
  | .b5 => .rst_28
  | .b6 => .rst_30
  | .b7 => .rst_38

/-- The rotates and shifts of a register (R275-R282). -/
def rotRegI : RotOp → R8 → Instr
  | .rlc, .b => .rlc_b
  | .rlc, .c => .rlc_c
  | .rlc, .d => .rlc_d
  | .rlc, .e => .rlc_e
  | .rlc, .h => .rlc_h
  | .rlc, .l => .rlc_l
  | .rlc, .a => .rlc_a
  | .rrc, .b => .rrc_b
  | .rrc, .c => .rrc_c
  | .rrc, .d => .rrc_d
  | .rrc, .e => .rrc_e
  | .rrc, .h => .rrc_h
  | .rrc, .l => .rrc_l
  | .rrc, .a => .rrc_a
  | .rl, .b => .rl_b
  | .rl, .c => .rl_c
  | .rl, .d => .rl_d
  | .rl, .e => .rl_e
  | .rl, .h => .rl_h
  | .rl, .l => .rl_l
  | .rl, .a => .rl_a
  | .rr, .b => .rr_b
  | .rr, .c => .rr_c
  | .rr, .d => .rr_d
  | .rr, .e => .rr_e
  | .rr, .h => .rr_h
  | .rr, .l => .rr_l
  | .rr, .a => .rr_a
  | .sla, .b => .sla_b
  | .sla, .c => .sla_c
  | .sla, .d => .sla_d
  | .sla, .e => .sla_e
  | .sla, .h => .sla_h
  | .sla, .l => .sla_l
  | .sla, .a => .sla_a
  | .sra, .b => .sra_b
  | .sra, .c => .sra_c
  | .sra, .d => .sra_d
  | .sra, .e => .sra_e
  | .sra, .h => .sra_h
  | .sra, .l => .sra_l
  | .sra, .a => .sra_a
  | .swap, .b => .swap_b
  | .swap, .c => .swap_c
  | .swap, .d => .swap_d
  | .swap, .e => .swap_e
  | .swap, .h => .swap_h
  | .swap, .l => .swap_l
  | .swap, .a => .swap_a
  | .srl, .b => .srl_b
  | .srl, .c => .srl_c
  | .srl, .d => .srl_d
  | .srl, .e => .srl_e
  | .srl, .h => .srl_h
  | .srl, .l => .srl_l
  | .srl, .a => .srl_a

/-- The rotates and shifts of the byte at HL (R275-R282). -/
def rotMemI : RotOp → Instr
  | .rlc => .rlc_atHL
  | .rrc => .rrc_atHL
  | .rl => .rl_atHL
  | .rr => .rr_atHL
  | .sla => .sla_atHL
  | .sra => .sra_atHL
  | .swap => .swap_atHL
  | .srl => .srl_atHL

/-- BIT b,r (R283). -/
def bitRegI : BitIdx → R8 → Instr
  | .b0, .b => .bit_0_b
  | .b0, .c => .bit_0_c
  | .b0, .d => .bit_0_d
  | .b0, .e => .bit_0_e
  | .b0, .h => .bit_0_h
  | .b0, .l => .bit_0_l
  | .b0, .a => .bit_0_a
  | .b1, .b => .bit_1_b
  | .b1, .c => .bit_1_c
  | .b1, .d => .bit_1_d
  | .b1, .e => .bit_1_e
  | .b1, .h => .bit_1_h
  | .b1, .l => .bit_1_l
  | .b1, .a => .bit_1_a
  | .b2, .b => .bit_2_b
  | .b2, .c => .bit_2_c
  | .b2, .d => .bit_2_d
  | .b2, .e => .bit_2_e
  | .b2, .h => .bit_2_h
  | .b2, .l => .bit_2_l
  | .b2, .a => .bit_2_a
  | .b3, .b => .bit_3_b
  | .b3, .c => .bit_3_c
  | .b3, .d => .bit_3_d
  | .b3, .e => .bit_3_e
  | .b3, .h => .bit_3_h
  | .b3, .l => .bit_3_l
  | .b3, .a => .bit_3_a
  | .b4, .b => .bit_4_b
  | .b4, .c => .bit_4_c
  | .b4, .d => .bit_4_d
  | .b4, .e => .bit_4_e
  | .b4, .h => .bit_4_h
  | .b4, .l => .bit_4_l
  | .b4, .a => .bit_4_a
  | .b5, .b => .bit_5_b
  | .b5, .c => .bit_5_c
  | .b5, .d => .bit_5_d
  | .b5, .e => .bit_5_e
  | .b5, .h => .bit_5_h
  | .b5, .l => .bit_5_l
  | .b5, .a => .bit_5_a
  | .b6, .b => .bit_6_b
  | .b6, .c => .bit_6_c
  | .b6, .d => .bit_6_d
  | .b6, .e => .bit_6_e
  | .b6, .h => .bit_6_h
  | .b6, .l => .bit_6_l
  | .b6, .a => .bit_6_a
  | .b7, .b => .bit_7_b
  | .b7, .c => .bit_7_c
  | .b7, .d => .bit_7_d
  | .b7, .e => .bit_7_e
  | .b7, .h => .bit_7_h
  | .b7, .l => .bit_7_l
  | .b7, .a => .bit_7_a

/-- BIT b,(HL) (R283). -/
def bitMemI : BitIdx → Instr
  | .b0 => .bit_0_atHL
  | .b1 => .bit_1_atHL
  | .b2 => .bit_2_atHL
  | .b3 => .bit_3_atHL
  | .b4 => .bit_4_atHL
  | .b5 => .bit_5_atHL
  | .b6 => .bit_6_atHL
  | .b7 => .bit_7_atHL

/-- RES b,r (R284). -/
def resRegI : BitIdx → R8 → Instr
  | .b0, .b => .res_0_b
  | .b0, .c => .res_0_c
  | .b0, .d => .res_0_d
  | .b0, .e => .res_0_e
  | .b0, .h => .res_0_h
  | .b0, .l => .res_0_l
  | .b0, .a => .res_0_a
  | .b1, .b => .res_1_b
  | .b1, .c => .res_1_c
  | .b1, .d => .res_1_d
  | .b1, .e => .res_1_e
  | .b1, .h => .res_1_h
  | .b1, .l => .res_1_l
  | .b1, .a => .res_1_a
  | .b2, .b => .res_2_b
  | .b2, .c => .res_2_c
  | .b2, .d => .res_2_d
  | .b2, .e => .res_2_e
  | .b2, .h => .res_2_h
  | .b2, .l => .res_2_l
  | .b2, .a => .res_2_a
  | .b3, .b => .res_3_b
  | .b3, .c => .res_3_c
  | .b3, .d => .res_3_d
  | .b3, .e => .res_3_e
  | .b3, .h => .res_3_h
  | .b3, .l => .res_3_l
  | .b3, .a => .res_3_a
  | .b4, .b => .res_4_b
  | .b4, .c => .res_4_c
  | .b4, .d => .res_4_d
  | .b4, .e => .res_4_e
  | .b4, .h => .res_4_h
  | .b4, .l => .res_4_l
  | .b4, .a => .res_4_a
  | .b5, .b => .res_5_b
  | .b5, .c => .res_5_c
  | .b5, .d => .res_5_d
  | .b5, .e => .res_5_e
  | .b5, .h => .res_5_h
  | .b5, .l => .res_5_l
  | .b5, .a => .res_5_a
  | .b6, .b => .res_6_b
  | .b6, .c => .res_6_c
  | .b6, .d => .res_6_d
  | .b6, .e => .res_6_e
  | .b6, .h => .res_6_h
  | .b6, .l => .res_6_l
  | .b6, .a => .res_6_a
  | .b7, .b => .res_7_b
  | .b7, .c => .res_7_c
  | .b7, .d => .res_7_d
  | .b7, .e => .res_7_e
  | .b7, .h => .res_7_h
  | .b7, .l => .res_7_l
  | .b7, .a => .res_7_a

/-- RES b,(HL) (R284). -/
def resMemI : BitIdx → Instr
  | .b0 => .res_0_atHL
  | .b1 => .res_1_atHL
  | .b2 => .res_2_atHL
  | .b3 => .res_3_atHL
  | .b4 => .res_4_atHL
  | .b5 => .res_5_atHL
  | .b6 => .res_6_atHL
  | .b7 => .res_7_atHL

/-- SET b,r (R285). -/
def setRegI : BitIdx → R8 → Instr
  | .b0, .b => .set_0_b
  | .b0, .c => .set_0_c
  | .b0, .d => .set_0_d
  | .b0, .e => .set_0_e
  | .b0, .h => .set_0_h
  | .b0, .l => .set_0_l
  | .b0, .a => .set_0_a
  | .b1, .b => .set_1_b
  | .b1, .c => .set_1_c
  | .b1, .d => .set_1_d
  | .b1, .e => .set_1_e
  | .b1, .h => .set_1_h
  | .b1, .l => .set_1_l
  | .b1, .a => .set_1_a
  | .b2, .b => .set_2_b
  | .b2, .c => .set_2_c
  | .b2, .d => .set_2_d
  | .b2, .e => .set_2_e
  | .b2, .h => .set_2_h
  | .b2, .l => .set_2_l
  | .b2, .a => .set_2_a
  | .b3, .b => .set_3_b
  | .b3, .c => .set_3_c
  | .b3, .d => .set_3_d
  | .b3, .e => .set_3_e
  | .b3, .h => .set_3_h
  | .b3, .l => .set_3_l
  | .b3, .a => .set_3_a
  | .b4, .b => .set_4_b
  | .b4, .c => .set_4_c
  | .b4, .d => .set_4_d
  | .b4, .e => .set_4_e
  | .b4, .h => .set_4_h
  | .b4, .l => .set_4_l
  | .b4, .a => .set_4_a
  | .b5, .b => .set_5_b
  | .b5, .c => .set_5_c
  | .b5, .d => .set_5_d
  | .b5, .e => .set_5_e
  | .b5, .h => .set_5_h
  | .b5, .l => .set_5_l
  | .b5, .a => .set_5_a
  | .b6, .b => .set_6_b
  | .b6, .c => .set_6_c
  | .b6, .d => .set_6_d
  | .b6, .e => .set_6_e
  | .b6, .h => .set_6_h
  | .b6, .l => .set_6_l
  | .b6, .a => .set_6_a
  | .b7, .b => .set_7_b
  | .b7, .c => .set_7_c
  | .b7, .d => .set_7_d
  | .b7, .e => .set_7_e
  | .b7, .h => .set_7_h
  | .b7, .l => .set_7_l
  | .b7, .a => .set_7_a

/-- SET b,(HL) (R285). -/
def setMemI : BitIdx → Instr
  | .b0 => .set_0_atHL
  | .b1 => .set_1_atHL
  | .b2 => .set_2_atHL
  | .b3 => .set_3_atHL
  | .b4 => .set_4_atHL
  | .b5 => .set_5_atHL
  | .b6 => .set_6_atHL
  | .b7 => .set_7_atHL

/-! ### The primary and the extended table -/

/-- What the primary table holds for an opcode byte, by format (R141): a whole instruction, one that takes one byte, one
that takes a 16-bit operand, or the prefix of the extended table. -/
inductive Entry where
  | f1 (i : Instr)
  | f2 (k : Byte → Instr)
  | f3 (k : Word → Instr)
  | f4

/-- The primary table (R147, R149) by the fields x, y, z, p, q of R141. -/
def primaryEntry (op : Byte) : Entry :=
  let y := op.toNat / 8 % 8
  let p := y / 2
  let q := y % 2
  match op.toNat / 64, op.toNat % 8 with
  | 0, 0 =>
    match y with
    | 0 => .f1 .nop
    | 1 => .f3 .ld_atA16_sp
    | 2 => .f2 .stop
    | 3 => .f2 .jr_e8
    | _ => .f2 (fun e8 => jrIfI e8 (condField (y - 4)))
  | 0, 1 => if q = 0 then .f3 (fun n16 => ldPairImmI n16 (rpField p)) else .f1 (addHlI (rpField p))
  | 0, 2 =>
    match y with
    | 0 => .f1 .ld_atBC_a
    | 1 => .f1 .ld_a_atBC
    | 2 => .f1 .ld_atDE_a
    | 3 => .f1 .ld_a_atDE
    | 4 => .f1 .ld_atHLI_a
    | 5 => .f1 .ld_a_atHLI
    | 6 => .f1 .ld_atHLD_a
    | _ => .f1 .ld_a_atHLD
  | 0, 3 => .f1 (if q = 0 then incPairI (rpField p) else decPairI (rpField p))
  | 0, 4 =>
    match regField y with
    | some r => .f1 (incRegI r)
    | none => .f1 .inc_atHL
  | 0, 5 =>
    match regField y with
    | some r => .f1 (decRegI r)
    | none => .f1 .dec_atHL
  | 0, 6 =>
    match regField y with
    | some r => .f2 (fun n8 => ldRegImmI n8 r)
    | none => .f2 .ld_atHL_n8
  | 0, _ =>
    match y with
    | 0 => .f1 .rlca
    | 1 => .f1 .rrca
    | 2 => .f1 .rla
    | 3 => .f1 .rra
    | 4 => .f1 .daa
    | 5 => .f1 .cpl
    | 6 => .f1 .scf
    | _ => .f1 .ccf
  | 1, z =>
    match regField y, regField z with
    | some dst, some r => .f1 (ldRegRegI dst r)
    | some dst, none => .f1 (ldRegMemI dst)
    | none, some r => .f1 (ldMemRegI r)
    | none, none => .f1 .halt
  | 2, z =>
    match regField z with
    | some r => .f1 (aluRegI (aluField y) r)
    | none => .f1 (aluMemI (aluField y))
  | _, 0 =>
    match y with
    | 4 => .f2 .ldh_atA8_a
    | 5 => .f2 .add_sp_e8
    | 6 => .f2 .ldh_a_atA8
    | 7 => .f2 .ld_hl_sp_e8
    | _ => .f1 (retIfI (condField y))
  | _, 1 =>
    if q = 0 then .f1 (popI (rp2Field p))
    else match p with
      | 0 => .f1 .ret
      | 1 => .f1 .reti
      | 2 => .f1 .jp_hl
      | _ => .f1 .ld_sp_hl
  | _, 2 =>
    match y with
    | 4 => .f1 .ldh_atC_a
    | 5 => .f3 .ld_atA16_a
    | 6 => .f1 .ldh_a_atC
    | 7 => .f3 .ld_a_atA16
    | _ => .f3 (fun a16 => jpIfI a16 (condField y))
  | _, 3 =>
    match y with
    | 0 => .f3 .jp_a16
    | 1 => .f4
    | 6 => .f1 .di
    | 7 => .f1 .ei
    | _ => .f1 (.illegal op)
  | _, 4 => if y < 4 then .f3 (fun a16 => callIfI a16 (condField y)) else .f1 (.illegal op)
  | _, 5 => if q = 0 then .f1 (pushI (rp2Field p)) else if p = 0 then .f3 .call_a16 else .f1 (.illegal op)
  | _, 6 => .f2 (fun n8 => aluImmI n8 (aluField y))
  | _, _ => .f1 (rstI (bitField y))

/-- The extended table by the fields x, y, z (R148); it has no holes (R150). -/
def extendedEntry (cbop : Byte) : Instr :=
  let y := cbop.toNat / 8 % 8
  match cbop.toNat / 64, regField (cbop.toNat % 8) with
  | 0, some r => rotRegI (rotField y) r
  | 0, none => rotMemI (rotField y)
  | 1, some r => bitRegI (bitField y) r
  | 1, none => bitMemI (bitField y)
  | 2, some r => resRegI (bitField y) r
  | 2, none => resMemI (bitField y)
  | _, some r => setRegI (bitField y) r
  | _, none => setMemI (bitField y)

/-! ### The decoder -/

/-- The length of the instruction that starts with a byte: a function of that byte alone (R140, R151). -/
def lengthOf (op : Byte) : Nat :=
  match primaryEntry op with
  | .f1 _ => 1
  | .f2 _ => 2
  | .f3 _ => 3
  | .f4 => 2

/-- The instruction of three bytes in fetch order, of which it uses the first `lengthOf b0`; total (R151). -/
def decode3 (b0 b1 b2 : Byte) : Instr :=
  match primaryEntry b0 with
  | .f1 i => i
  | .f2 k => k b1
  | .f3 k => k (Machine.w16 b2 b1)
  | .f4 => extendedEntry b1

/-- Why bytes are no instruction. -/
inductive DecodeReject where
  /-- There is no byte. -/
  | noBytes
  /-- The bytes end inside the instruction that `op` starts. -/
  | truncated (op : Byte)
  deriving DecidableEq, Repr

/-- Decode the instruction at the front of a list of bytes and answer it with the bytes after it. A lone 0xCB is the prefix
itself, whose extended opcode has yet to come (spec/45_system.md R332, notes/assumptions/8.md). -/
def decode (bs : List Byte) : Except DecodeReject (Instr × List Byte) :=
  match bs with
  | [] => .error .noBytes
  | b0 :: rest =>
    if bs.length < lengthOf b0 then (if b0 = 0xCB then .ok (.prefixCB, []) else .error (.truncated b0))
    else .ok (decode3 b0 (rest.getD 0 0) (rest.getD 1 0), bs.drop (lengthOf b0))

/-- The bytes, in fetch order, of the instruction whose bits are `w` as the opcode table numbers them: a 16-bit row of the
extended table has 0xCB as its high byte; otherwise the first byte is the low one. A row's bits above `nbits` are zero bytes;
the row PREFIX CB is the prefix byte alone (notes/assumptions/9.md). -/
def tableBytes (nbits w : Nat) : List Byte :=
  if nbits ≤ 8 ∧ w = 0xCB then [0xCB]
  else if 8 < nbits ∧ nbits ≤ 16 ∧ w / 256 = 0xCB then [0xCB, BitVec.ofNat 8 w, 0]
  else [BitVec.ofNat 8 w, BitVec.ofNat 8 (w / 256), BitVec.ofNat 8 (w / 65536)]

/-- The instruction the decoder reads from the instruction whose bits are `w`. -/
def decodeTableWord (nbits w : Nat) : Option Instr :=
  match decode (tableBytes nbits w) with
  | .ok r => some r.1
  | .error _ => none

/-! ### The encoder -/

/-- The bytes of an instruction in fetch order: opcode, then the operand, low byte first (R141, R146, and the rows of
spec/opcode_table.json). -/
def encode : Instr → List Byte
  | .nop => [0x00]
  | .ld_bc_n16 n16 => [0x01, Machine.lo n16, Machine.hi n16]
  | .ld_atBC_a => [0x02]
  | .inc_bc => [0x03]
  | .inc_b => [0x04]
  | .dec_b => [0x05]
  | .ld_b_n8 n8 => [0x06, n8]
  | .rlca => [0x07]
  | .ld_atA16_sp a16 => [0x08, Machine.lo a16, Machine.hi a16]
  | .add_hl_bc => [0x09]
  | .ld_a_atBC => [0x0A]
  | .dec_bc => [0x0B]
  | .inc_c => [0x0C]
  | .dec_c => [0x0D]
  | .ld_c_n8 n8 => [0x0E, n8]
  | .rrca => [0x0F]
  | .stop ign8 => [0x10, ign8]
  | .ld_de_n16 n16 => [0x11, Machine.lo n16, Machine.hi n16]
  | .ld_atDE_a => [0x12]
  | .inc_de => [0x13]
  | .inc_d => [0x14]
  | .dec_d => [0x15]
  | .ld_d_n8 n8 => [0x16, n8]
  | .rla => [0x17]
  | .jr_e8 e8 => [0x18, e8]
  | .add_hl_de => [0x19]
  | .ld_a_atDE => [0x1A]
  | .dec_de => [0x1B]
  | .inc_e => [0x1C]
  | .dec_e => [0x1D]
  | .ld_e_n8 n8 => [0x1E, n8]
  | .rra => [0x1F]
  | .jr_nz_e8 e8 => [0x20, e8]
  | .ld_hl_n16 n16 => [0x21, Machine.lo n16, Machine.hi n16]
  | .ld_atHLI_a => [0x22]
  | .inc_hl => [0x23]
  | .inc_h => [0x24]
  | .dec_h => [0x25]
  | .ld_h_n8 n8 => [0x26, n8]
  | .daa => [0x27]
  | .jr_z_e8 e8 => [0x28, e8]
  | .add_hl_hl => [0x29]
  | .ld_a_atHLI => [0x2A]
  | .dec_hl => [0x2B]
  | .inc_l => [0x2C]
  | .dec_l => [0x2D]
  | .ld_l_n8 n8 => [0x2E, n8]
  | .cpl => [0x2F]
  | .jr_nc_e8 e8 => [0x30, e8]
  | .ld_sp_n16 n16 => [0x31, Machine.lo n16, Machine.hi n16]
  | .ld_atHLD_a => [0x32]
  | .inc_sp => [0x33]
  | .inc_atHL => [0x34]
  | .dec_atHL => [0x35]
  | .ld_atHL_n8 n8 => [0x36, n8]
  | .scf => [0x37]
  | .jr_c_e8 e8 => [0x38, e8]
  | .add_hl_sp => [0x39]
  | .ld_a_atHLD => [0x3A]
  | .dec_sp => [0x3B]
  | .inc_a => [0x3C]
  | .dec_a => [0x3D]
  | .ld_a_n8 n8 => [0x3E, n8]
  | .ccf => [0x3F]
  | .ld_b_b => [0x40]
  | .ld_b_c => [0x41]
  | .ld_b_d => [0x42]
  | .ld_b_e => [0x43]
  | .ld_b_h => [0x44]
  | .ld_b_l => [0x45]
  | .ld_b_atHL => [0x46]
  | .ld_b_a => [0x47]
  | .ld_c_b => [0x48]
  | .ld_c_c => [0x49]
  | .ld_c_d => [0x4A]
  | .ld_c_e => [0x4B]
  | .ld_c_h => [0x4C]
  | .ld_c_l => [0x4D]
  | .ld_c_atHL => [0x4E]
  | .ld_c_a => [0x4F]
  | .ld_d_b => [0x50]
  | .ld_d_c => [0x51]
  | .ld_d_d => [0x52]
  | .ld_d_e => [0x53]
  | .ld_d_h => [0x54]
  | .ld_d_l => [0x55]
  | .ld_d_atHL => [0x56]
  | .ld_d_a => [0x57]
  | .ld_e_b => [0x58]
  | .ld_e_c => [0x59]
  | .ld_e_d => [0x5A]
  | .ld_e_e => [0x5B]
  | .ld_e_h => [0x5C]
  | .ld_e_l => [0x5D]
  | .ld_e_atHL => [0x5E]
  | .ld_e_a => [0x5F]
  | .ld_h_b => [0x60]
  | .ld_h_c => [0x61]
  | .ld_h_d => [0x62]
  | .ld_h_e => [0x63]
  | .ld_h_h => [0x64]
  | .ld_h_l => [0x65]
  | .ld_h_atHL => [0x66]
  | .ld_h_a => [0x67]
  | .ld_l_b => [0x68]
  | .ld_l_c => [0x69]
  | .ld_l_d => [0x6A]
  | .ld_l_e => [0x6B]
  | .ld_l_h => [0x6C]
  | .ld_l_l => [0x6D]
  | .ld_l_atHL => [0x6E]
  | .ld_l_a => [0x6F]
  | .ld_atHL_b => [0x70]
  | .ld_atHL_c => [0x71]
  | .ld_atHL_d => [0x72]
  | .ld_atHL_e => [0x73]
  | .ld_atHL_h => [0x74]
  | .ld_atHL_l => [0x75]
  | .halt => [0x76]
  | .ld_atHL_a => [0x77]
  | .ld_a_b => [0x78]
  | .ld_a_c => [0x79]
  | .ld_a_d => [0x7A]
  | .ld_a_e => [0x7B]
  | .ld_a_h => [0x7C]
  | .ld_a_l => [0x7D]
  | .ld_a_atHL => [0x7E]
  | .ld_a_a => [0x7F]
  | .add_a_b => [0x80]
  | .add_a_c => [0x81]
  | .add_a_d => [0x82]
  | .add_a_e => [0x83]
  | .add_a_h => [0x84]
  | .add_a_l => [0x85]
  | .add_a_atHL => [0x86]
  | .add_a_a => [0x87]
  | .adc_a_b => [0x88]
  | .adc_a_c => [0x89]
  | .adc_a_d => [0x8A]
  | .adc_a_e => [0x8B]
  | .adc_a_h => [0x8C]
  | .adc_a_l => [0x8D]
  | .adc_a_atHL => [0x8E]
  | .adc_a_a => [0x8F]
  | .sub_b => [0x90]
  | .sub_c => [0x91]
  | .sub_d => [0x92]
  | .sub_e => [0x93]
  | .sub_h => [0x94]
  | .sub_l => [0x95]
  | .sub_atHL => [0x96]
  | .sub_a => [0x97]
  | .sbc_a_b => [0x98]
  | .sbc_a_c => [0x99]
  | .sbc_a_d => [0x9A]
  | .sbc_a_e => [0x9B]
  | .sbc_a_h => [0x9C]
  | .sbc_a_l => [0x9D]
  | .sbc_a_atHL => [0x9E]
  | .sbc_a_a => [0x9F]
  | .and_b => [0xA0]
  | .and_c => [0xA1]
  | .and_d => [0xA2]
  | .and_e => [0xA3]
  | .and_h => [0xA4]
  | .and_l => [0xA5]
  | .and_atHL => [0xA6]
  | .and_a => [0xA7]
  | .xor_b => [0xA8]
  | .xor_c => [0xA9]
  | .xor_d => [0xAA]
  | .xor_e => [0xAB]
  | .xor_h => [0xAC]
  | .xor_l => [0xAD]
  | .xor_atHL => [0xAE]
  | .xor_a => [0xAF]
  | .or_b => [0xB0]
  | .or_c => [0xB1]
  | .or_d => [0xB2]
  | .or_e => [0xB3]
  | .or_h => [0xB4]
  | .or_l => [0xB5]
  | .or_atHL => [0xB6]
  | .or_a => [0xB7]
  | .cp_b => [0xB8]
  | .cp_c => [0xB9]
  | .cp_d => [0xBA]
  | .cp_e => [0xBB]
  | .cp_h => [0xBC]
  | .cp_l => [0xBD]
  | .cp_atHL => [0xBE]
  | .cp_a => [0xBF]
  | .ret_nz => [0xC0]
  | .pop_bc => [0xC1]
  | .jp_nz_a16 a16 => [0xC2, Machine.lo a16, Machine.hi a16]
  | .jp_a16 a16 => [0xC3, Machine.lo a16, Machine.hi a16]
  | .call_nz_a16 a16 => [0xC4, Machine.lo a16, Machine.hi a16]
  | .push_bc => [0xC5]
  | .add_a_n8 n8 => [0xC6, n8]
  | .rst_00 => [0xC7]
  | .ret_z => [0xC8]
  | .ret => [0xC9]
  | .jp_z_a16 a16 => [0xCA, Machine.lo a16, Machine.hi a16]
  | .prefixCB => [0xCB]
  | .call_z_a16 a16 => [0xCC, Machine.lo a16, Machine.hi a16]
  | .call_a16 a16 => [0xCD, Machine.lo a16, Machine.hi a16]
  | .adc_a_n8 n8 => [0xCE, n8]
  | .rst_08 => [0xCF]
  | .ret_nc => [0xD0]
  | .pop_de => [0xD1]
  | .jp_nc_a16 a16 => [0xD2, Machine.lo a16, Machine.hi a16]
  | .illegal op => [op]
  | .call_nc_a16 a16 => [0xD4, Machine.lo a16, Machine.hi a16]
  | .push_de => [0xD5]
  | .sub_n8 n8 => [0xD6, n8]
  | .rst_10 => [0xD7]
  | .ret_c => [0xD8]
  | .reti => [0xD9]
  | .jp_c_a16 a16 => [0xDA, Machine.lo a16, Machine.hi a16]
  | .call_c_a16 a16 => [0xDC, Machine.lo a16, Machine.hi a16]
  | .sbc_a_n8 n8 => [0xDE, n8]
  | .rst_18 => [0xDF]
  | .ldh_atA8_a a8 => [0xE0, a8]
  | .pop_hl => [0xE1]
  | .ldh_atC_a => [0xE2]
  | .push_hl => [0xE5]
  | .and_n8 n8 => [0xE6, n8]
  | .rst_20 => [0xE7]
  | .add_sp_e8 e8 => [0xE8, e8]
  | .jp_hl => [0xE9]
  | .ld_atA16_a a16 => [0xEA, Machine.lo a16, Machine.hi a16]
  | .xor_n8 n8 => [0xEE, n8]
  | .rst_28 => [0xEF]
  | .ldh_a_atA8 a8 => [0xF0, a8]
  | .pop_af => [0xF1]
  | .ldh_a_atC => [0xF2]
  | .di => [0xF3]
  | .push_af => [0xF5]
  | .or_n8 n8 => [0xF6, n8]
  | .rst_30 => [0xF7]
  | .ld_hl_sp_e8 e8 => [0xF8, e8]
  | .ld_sp_hl => [0xF9]
  | .ld_a_atA16 a16 => [0xFA, Machine.lo a16, Machine.hi a16]
  | .ei => [0xFB]
  | .cp_n8 n8 => [0xFE, n8]
  | .rst_38 => [0xFF]
  | .rlc_b => [0xCB, 0x00]
  | .rlc_c => [0xCB, 0x01]
  | .rlc_d => [0xCB, 0x02]
  | .rlc_e => [0xCB, 0x03]
  | .rlc_h => [0xCB, 0x04]
  | .rlc_l => [0xCB, 0x05]
  | .rlc_atHL => [0xCB, 0x06]
  | .rlc_a => [0xCB, 0x07]
  | .rrc_b => [0xCB, 0x08]
  | .rrc_c => [0xCB, 0x09]
  | .rrc_d => [0xCB, 0x0A]
  | .rrc_e => [0xCB, 0x0B]
  | .rrc_h => [0xCB, 0x0C]
  | .rrc_l => [0xCB, 0x0D]
  | .rrc_atHL => [0xCB, 0x0E]
  | .rrc_a => [0xCB, 0x0F]
  | .rl_b => [0xCB, 0x10]
  | .rl_c => [0xCB, 0x11]
  | .rl_d => [0xCB, 0x12]
  | .rl_e => [0xCB, 0x13]
  | .rl_h => [0xCB, 0x14]
  | .rl_l => [0xCB, 0x15]
  | .rl_atHL => [0xCB, 0x16]
  | .rl_a => [0xCB, 0x17]
  | .rr_b => [0xCB, 0x18]
  | .rr_c => [0xCB, 0x19]
  | .rr_d => [0xCB, 0x1A]
  | .rr_e => [0xCB, 0x1B]
  | .rr_h => [0xCB, 0x1C]
  | .rr_l => [0xCB, 0x1D]
  | .rr_atHL => [0xCB, 0x1E]
  | .rr_a => [0xCB, 0x1F]
  | .sla_b => [0xCB, 0x20]
  | .sla_c => [0xCB, 0x21]
  | .sla_d => [0xCB, 0x22]
  | .sla_e => [0xCB, 0x23]
  | .sla_h => [0xCB, 0x24]
  | .sla_l => [0xCB, 0x25]
  | .sla_atHL => [0xCB, 0x26]
  | .sla_a => [0xCB, 0x27]
  | .sra_b => [0xCB, 0x28]
  | .sra_c => [0xCB, 0x29]
  | .sra_d => [0xCB, 0x2A]
  | .sra_e => [0xCB, 0x2B]
  | .sra_h => [0xCB, 0x2C]
  | .sra_l => [0xCB, 0x2D]
  | .sra_atHL => [0xCB, 0x2E]
  | .sra_a => [0xCB, 0x2F]
  | .swap_b => [0xCB, 0x30]
  | .swap_c => [0xCB, 0x31]
  | .swap_d => [0xCB, 0x32]
  | .swap_e => [0xCB, 0x33]
  | .swap_h => [0xCB, 0x34]
  | .swap_l => [0xCB, 0x35]
  | .swap_atHL => [0xCB, 0x36]
  | .swap_a => [0xCB, 0x37]
  | .srl_b => [0xCB, 0x38]
  | .srl_c => [0xCB, 0x39]
  | .srl_d => [0xCB, 0x3A]
  | .srl_e => [0xCB, 0x3B]
  | .srl_h => [0xCB, 0x3C]
  | .srl_l => [0xCB, 0x3D]
  | .srl_atHL => [0xCB, 0x3E]
  | .srl_a => [0xCB, 0x3F]
  | .bit_0_b => [0xCB, 0x40]
  | .bit_0_c => [0xCB, 0x41]
  | .bit_0_d => [0xCB, 0x42]
  | .bit_0_e => [0xCB, 0x43]
  | .bit_0_h => [0xCB, 0x44]
  | .bit_0_l => [0xCB, 0x45]
  | .bit_0_atHL => [0xCB, 0x46]
  | .bit_0_a => [0xCB, 0x47]
  | .bit_1_b => [0xCB, 0x48]
  | .bit_1_c => [0xCB, 0x49]
  | .bit_1_d => [0xCB, 0x4A]
  | .bit_1_e => [0xCB, 0x4B]
  | .bit_1_h => [0xCB, 0x4C]
  | .bit_1_l => [0xCB, 0x4D]
  | .bit_1_atHL => [0xCB, 0x4E]
  | .bit_1_a => [0xCB, 0x4F]
  | .bit_2_b => [0xCB, 0x50]
  | .bit_2_c => [0xCB, 0x51]
  | .bit_2_d => [0xCB, 0x52]
  | .bit_2_e => [0xCB, 0x53]
  | .bit_2_h => [0xCB, 0x54]
  | .bit_2_l => [0xCB, 0x55]
  | .bit_2_atHL => [0xCB, 0x56]
  | .bit_2_a => [0xCB, 0x57]
  | .bit_3_b => [0xCB, 0x58]
  | .bit_3_c => [0xCB, 0x59]
  | .bit_3_d => [0xCB, 0x5A]
  | .bit_3_e => [0xCB, 0x5B]
  | .bit_3_h => [0xCB, 0x5C]
  | .bit_3_l => [0xCB, 0x5D]
  | .bit_3_atHL => [0xCB, 0x5E]
  | .bit_3_a => [0xCB, 0x5F]
  | .bit_4_b => [0xCB, 0x60]
  | .bit_4_c => [0xCB, 0x61]
  | .bit_4_d => [0xCB, 0x62]
  | .bit_4_e => [0xCB, 0x63]
  | .bit_4_h => [0xCB, 0x64]
  | .bit_4_l => [0xCB, 0x65]
  | .bit_4_atHL => [0xCB, 0x66]
  | .bit_4_a => [0xCB, 0x67]
  | .bit_5_b => [0xCB, 0x68]
  | .bit_5_c => [0xCB, 0x69]
  | .bit_5_d => [0xCB, 0x6A]
  | .bit_5_e => [0xCB, 0x6B]
  | .bit_5_h => [0xCB, 0x6C]
  | .bit_5_l => [0xCB, 0x6D]
  | .bit_5_atHL => [0xCB, 0x6E]
  | .bit_5_a => [0xCB, 0x6F]
  | .bit_6_b => [0xCB, 0x70]
  | .bit_6_c => [0xCB, 0x71]
  | .bit_6_d => [0xCB, 0x72]
  | .bit_6_e => [0xCB, 0x73]
  | .bit_6_h => [0xCB, 0x74]
  | .bit_6_l => [0xCB, 0x75]
  | .bit_6_atHL => [0xCB, 0x76]
  | .bit_6_a => [0xCB, 0x77]
  | .bit_7_b => [0xCB, 0x78]
  | .bit_7_c => [0xCB, 0x79]
  | .bit_7_d => [0xCB, 0x7A]
  | .bit_7_e => [0xCB, 0x7B]
  | .bit_7_h => [0xCB, 0x7C]
  | .bit_7_l => [0xCB, 0x7D]
  | .bit_7_atHL => [0xCB, 0x7E]
  | .bit_7_a => [0xCB, 0x7F]
  | .res_0_b => [0xCB, 0x80]
  | .res_0_c => [0xCB, 0x81]
  | .res_0_d => [0xCB, 0x82]
  | .res_0_e => [0xCB, 0x83]
  | .res_0_h => [0xCB, 0x84]
  | .res_0_l => [0xCB, 0x85]
  | .res_0_atHL => [0xCB, 0x86]
  | .res_0_a => [0xCB, 0x87]
  | .res_1_b => [0xCB, 0x88]
  | .res_1_c => [0xCB, 0x89]
  | .res_1_d => [0xCB, 0x8A]
  | .res_1_e => [0xCB, 0x8B]
  | .res_1_h => [0xCB, 0x8C]
  | .res_1_l => [0xCB, 0x8D]
  | .res_1_atHL => [0xCB, 0x8E]
  | .res_1_a => [0xCB, 0x8F]
  | .res_2_b => [0xCB, 0x90]
  | .res_2_c => [0xCB, 0x91]
  | .res_2_d => [0xCB, 0x92]
  | .res_2_e => [0xCB, 0x93]
  | .res_2_h => [0xCB, 0x94]
  | .res_2_l => [0xCB, 0x95]
  | .res_2_atHL => [0xCB, 0x96]
  | .res_2_a => [0xCB, 0x97]
  | .res_3_b => [0xCB, 0x98]
  | .res_3_c => [0xCB, 0x99]
  | .res_3_d => [0xCB, 0x9A]
  | .res_3_e => [0xCB, 0x9B]
  | .res_3_h => [0xCB, 0x9C]
  | .res_3_l => [0xCB, 0x9D]
  | .res_3_atHL => [0xCB, 0x9E]
  | .res_3_a => [0xCB, 0x9F]
  | .res_4_b => [0xCB, 0xA0]
  | .res_4_c => [0xCB, 0xA1]
  | .res_4_d => [0xCB, 0xA2]
  | .res_4_e => [0xCB, 0xA3]
  | .res_4_h => [0xCB, 0xA4]
  | .res_4_l => [0xCB, 0xA5]
  | .res_4_atHL => [0xCB, 0xA6]
  | .res_4_a => [0xCB, 0xA7]
  | .res_5_b => [0xCB, 0xA8]
  | .res_5_c => [0xCB, 0xA9]
  | .res_5_d => [0xCB, 0xAA]
  | .res_5_e => [0xCB, 0xAB]
  | .res_5_h => [0xCB, 0xAC]
  | .res_5_l => [0xCB, 0xAD]
  | .res_5_atHL => [0xCB, 0xAE]
  | .res_5_a => [0xCB, 0xAF]
  | .res_6_b => [0xCB, 0xB0]
  | .res_6_c => [0xCB, 0xB1]
  | .res_6_d => [0xCB, 0xB2]
  | .res_6_e => [0xCB, 0xB3]
  | .res_6_h => [0xCB, 0xB4]
  | .res_6_l => [0xCB, 0xB5]
  | .res_6_atHL => [0xCB, 0xB6]
  | .res_6_a => [0xCB, 0xB7]
  | .res_7_b => [0xCB, 0xB8]
  | .res_7_c => [0xCB, 0xB9]
  | .res_7_d => [0xCB, 0xBA]
  | .res_7_e => [0xCB, 0xBB]
  | .res_7_h => [0xCB, 0xBC]
  | .res_7_l => [0xCB, 0xBD]
  | .res_7_atHL => [0xCB, 0xBE]
  | .res_7_a => [0xCB, 0xBF]
  | .set_0_b => [0xCB, 0xC0]
  | .set_0_c => [0xCB, 0xC1]
  | .set_0_d => [0xCB, 0xC2]
  | .set_0_e => [0xCB, 0xC3]
  | .set_0_h => [0xCB, 0xC4]
  | .set_0_l => [0xCB, 0xC5]
  | .set_0_atHL => [0xCB, 0xC6]
  | .set_0_a => [0xCB, 0xC7]
  | .set_1_b => [0xCB, 0xC8]
  | .set_1_c => [0xCB, 0xC9]
  | .set_1_d => [0xCB, 0xCA]
  | .set_1_e => [0xCB, 0xCB]
  | .set_1_h => [0xCB, 0xCC]
  | .set_1_l => [0xCB, 0xCD]
  | .set_1_atHL => [0xCB, 0xCE]
  | .set_1_a => [0xCB, 0xCF]
  | .set_2_b => [0xCB, 0xD0]
  | .set_2_c => [0xCB, 0xD1]
  | .set_2_d => [0xCB, 0xD2]
  | .set_2_e => [0xCB, 0xD3]
  | .set_2_h => [0xCB, 0xD4]
  | .set_2_l => [0xCB, 0xD5]
  | .set_2_atHL => [0xCB, 0xD6]
  | .set_2_a => [0xCB, 0xD7]
  | .set_3_b => [0xCB, 0xD8]
  | .set_3_c => [0xCB, 0xD9]
  | .set_3_d => [0xCB, 0xDA]
  | .set_3_e => [0xCB, 0xDB]
  | .set_3_h => [0xCB, 0xDC]
  | .set_3_l => [0xCB, 0xDD]
  | .set_3_atHL => [0xCB, 0xDE]
  | .set_3_a => [0xCB, 0xDF]
  | .set_4_b => [0xCB, 0xE0]
  | .set_4_c => [0xCB, 0xE1]
  | .set_4_d => [0xCB, 0xE2]
  | .set_4_e => [0xCB, 0xE3]
  | .set_4_h => [0xCB, 0xE4]
  | .set_4_l => [0xCB, 0xE5]
  | .set_4_atHL => [0xCB, 0xE6]
  | .set_4_a => [0xCB, 0xE7]
  | .set_5_b => [0xCB, 0xE8]
  | .set_5_c => [0xCB, 0xE9]
  | .set_5_d => [0xCB, 0xEA]
  | .set_5_e => [0xCB, 0xEB]
  | .set_5_h => [0xCB, 0xEC]
  | .set_5_l => [0xCB, 0xED]
  | .set_5_atHL => [0xCB, 0xEE]
  | .set_5_a => [0xCB, 0xEF]
  | .set_6_b => [0xCB, 0xF0]
  | .set_6_c => [0xCB, 0xF1]
  | .set_6_d => [0xCB, 0xF2]
  | .set_6_e => [0xCB, 0xF3]
  | .set_6_h => [0xCB, 0xF4]
  | .set_6_l => [0xCB, 0xF5]
  | .set_6_atHL => [0xCB, 0xF6]
  | .set_6_a => [0xCB, 0xF7]
  | .set_7_b => [0xCB, 0xF8]
  | .set_7_c => [0xCB, 0xF9]
  | .set_7_d => [0xCB, 0xFA]
  | .set_7_e => [0xCB, 0xFB]
  | .set_7_h => [0xCB, 0xFC]
  | .set_7_l => [0xCB, 0xFD]
  | .set_7_atHL => [0xCB, 0xFE]
  | .set_7_a => [0xCB, 0xFF]

end Sys2Proof
end

