-- ==== Sys2Proof/Machine/System.lean ====
section
/-!
DEFINITION. System and miscellaneous instructions (spec/45_system.md), with the extended dispatch behind the prefix 0xCB.
-/

namespace Sys2Proof.Machine

/-- `Implemented(table, opcode)` (spec/30_encoding.md R152, D3). -/
def State.implements (s : State) (t : Table) (op : Byte) : Bool := !(s.config.notImplemented.contains (t, op))

/-- NOP (R330). -/
def noOperation (s : State) : Result := done 4 s

/-- STOP (R331): a two-byte no-operation, or the fatal outcome at the address of the opcode byte, by `StopBehaviour`
(D11). -/
def stopOp (s : State) : Result :=
  match s.config.stopBehaviour with
  | .nop2 => done 4 s
  | .fatal => .next (s.raiseFatal (s.cpu.pc - 2))

/-- HALT (R333). -/
def haltOp (s : State) : Result := done 4 (s.setCpu { s.cpu with halted := true })

/-- DI (R335). -/
def disableInterrupts (s : State) : Result := done 4 (s.setCpu { s.cpu with ime := false })

/-- EI (R336, D4): no delay. -/
def enableInterrupts (s : State) : Result := done 4 (s.setCpu { s.cpu with ime := true })

/-- An opcode with no dispatch entry: the fatal outcome at the address of its byte (R337). -/
def illegalOp (s : State) : Result := .next (s.raiseFatal (s.cpu.pc - 1))

/-- The extended table (spec/30_encoding.md R148): `x` selects the group, `y` the operation or the bit, `z` the operand. -/
def extendedOp (cbop : Byte) (s : State) : Result :=
  let x := cbop.toNat / 64
  let y := cbop.toNat / 8 % 8
  let loc := match regField (cbop.toNat % 8) with
    | some r => Loc.reg r
    | none => Loc.atHL
  match x with
  | 0 => rotLoc (rotField y) loc s
  | 1 => bitLoc (bitField y) loc s
  | 2 => resLoc (bitField y) loc s
  | _ => setLoc (bitField y) loc s

/-- PREFIX CB (R332): `cbop <- fetch8()`, then the extended table; the fatal outcome at the address of the prefix where
`Implemented(cb, cbop)` is false. PC is past the prefix byte when this starts (notes/assumptions/8.md), and `Implemented` of
the prefix byte itself has been asked by the fetch, as for every primary opcode (`opcodesAt`, notes/assumptions/23.md). -/
def prefixOp (s : State) : Result :=
  let f := s.fetch8
  if s.implements .extended f.1 then extendedOp f.1 f.2 else .next (s.raiseFatal (s.cpu.pc - 1))

/-! ### The meanings, one for each row of the table -/

/-! R330. -/
/-- NOP -/
def execNop (s : State) : Result := noOperation s

/-! R331. -/
/-- STOP -/
def execStop (_ign8 : Byte) (s : State) : Result := stopOp s

/-! R332. -/
/-- PREFIX CB -/
def execPrefixCB (s : State) : Result := prefixOp s

/-! R333. -/
/-- HALT -/
def execHalt (s : State) : Result := haltOp s

/-! R335. -/
/-- DI -/
def execDi (s : State) : Result := disableInterrupts s

/-! R336. -/
/-- EI -/
def execEi (s : State) : Result := enableInterrupts s

/-! R337. -/
/-- ILLEGAL -/
def execIllegal (_op : Byte) (s : State) : Result := illegalOp s

end Sys2Proof.Machine
end

