-- ==== Sys2Proof/Machine/Driver.lean ====
section
/-!
DEFINITION. The CPU step and the frame driver (spec/60_exceptions.md R350-R357, R362, R425-R427), and the placing of an
instruction for `withFetchWord`.
-/

namespace Sys2Proof.Machine

/-! ### The CPU step -/

/-- The wake rule (R351). -/
def State.wake (s : State) : State :=
  if s.cpu.halted = true ∧ s.bus.ifr &&& 0x1F ≠ 0 then s.setCpu { s.cpu with halted := false } else s

/-- The opcodes of the instruction at two bytes, each with its table (R354). Behind 0xCB they are two, the prefix byte itself
and the extended opcode: spec/30_encoding.md R152 counts 0xCB among the defined primary bytes, though the pseudocode of R354
asks for `Implemented` of the extended opcode alone (notes/assumptions/23.md). -/
def opcodesAt (b0 b1 : Byte) : List (Table × Byte) :=
  if b0 = 0xCB then [(.primary, 0xCB), (.extended, b1)] else [(.primary, b0)]

/-- The instruction at PC (R354). Reads have no side effect (spec/20_memory.md R77), so reading three bytes at once is
fetching as many as the instruction needs (notes/assumptions/13.md). -/
def State.fetched (s : State) : Instr :=
  decode3 (s.read s.cpu.pc) (s.read (s.cpu.pc + 1)) (s.read (s.cpu.pc + 2))

/-- The state with PC past the whole instruction at PC. -/
def State.pastInstr (s : State) : State := s.setPc (s.cpu.pc + BitVec.ofNat 16 (lengthOf (s.read s.cpu.pc)))

/-- Whether `Implemented` holds of every opcode of the instruction at PC (R354, R362, spec/30_encoding.md R152). -/
def State.implementsNext (s : State) : Bool :=
  (opcodesAt (s.read s.cpu.pc) (s.read (s.cpu.pc + 1))).all fun t => s.implements t.1 t.2

/-- `FetchExecute()` (R354). -/
def fetchExecute (s : State) : Result :=
  if s.implementsNext then exec s.fetched s.pastInstr else .next (s.raiseFatal s.cpu.pc)

/-- `CPU.Step()` (R350): the fatal outcome again, or a wake and then a dispatch, a halted idle or one instruction. The cost
it returns is left in `Cpu.cost`. -/
def cpuStep (s : State) : Result :=
  if s.cpu.fatal then .fault (.fatalDecode s.cpu.fatalAddr)
  else
    let s := s.wake
    if s.cpu.ime = true ∧ s.pending ≠ 0 then done 20 (s.dispatch s.pending)
    else if s.cpu.halted then done 4 s
    else fetchExecute s

/-! ### The driver -/

/-- The driver's part of an iteration after a CPU step of cost `c`: the PPU step, the timer step, the count (R425, R426). -/
def State.tick (s : State) (c : Nat) : State :=
  let s := (s.ppuStep c).timerStep c
  { s with frameCycles := s.frameCycles + c }

/-- One iteration of the driver's loop. A CPU step that was fatal ends it before the PPU and the timer (R362, R425). -/
def iteration (s : State) : Result :=
  match cpuStep s with
  | .next t => if t.cpu.fatal then .next t else .next (t.tick t.cpu.cost)
  | .fault r => .fault r
  | .refused r => .refused r

/-- The driver's budget for a frame (R425). -/
def frameBudget : Nat := 70224

/-- The start of `RunFrame(b)`: the buttons are sampled and the count restarts (R425, D33, D43). -/
def State.beginFrame (s : State) (b : Buttons) : State := { (s.sample b) with frameCycles := 0 }

/-- Whether the next iteration is the first of a frame: nothing has been counted yet, or the budget is spent
(notes/assumptions/3.md). -/
def State.atFrameStart (s : State) : Bool := s.frameCycles == 0 || decide (frameBudget ≤ s.frameCycles)

/-- The buttons of the next frame: the head of `inputs`, and no button where the list has run out
(notes/assumptions/4.md). -/
def State.nextButtons (s : State) : Buttons := s.inputs.headD {}

/-- The start-of-frame work where it is due (R425). -/
def State.openFrame (s : State) : State :=
  if s.atFrameStart then { (s.beginFrame s.nextButtons) with inputs := s.inputs.tail } else s

/-- One step of the block: the start-of-frame work where it is due, then one iteration of the driver. A block that the fatal
outcome has stopped answers it again and does nothing (R362). -/
def blockStep (s : State) : Result :=
  if s.cpu.fatal then .fault (.fatalDecode s.cpu.fatalAddr) else iteration s.openFrame

/-- The loop of `RunFrame`, for at most `fuel` iterations. -/
def frameLoop : Nat → State → Result
  | 0, s => .next s
  | fuel + 1, s =>
    if s.frameCycles < frameBudget then
      match iteration s with
      | .next t => if t.cpu.fatal then .next t else frameLoop fuel t
      | .fault r => .fault r
      | .refused r => .refused r
    else .next s

/-- `RunFrame(b)` (R425). Every step costs at least 4, so the fuel covers a whole frame. -/
def runFrame (b : Buttons) (s : State) : Result := frameLoop (frameBudget / 4) (s.beginFrame b)

/-! ### Placing an instruction where the next step fetches it -/

/-- The bus with the byte at address `n` replaced in whatever array a read of `n` comes from, or nothing where no array
holds it. An image that ends before the byte is lengthened. -/
def Bus.place (echo : Bool) (b : Bus) (n : Nat) (v : Byte) : Option Bus :=
  if b.bootLatch = true ∧ n < 0x100 then some { b with mem := b.mem.write (bootKey n) v }
  else if n < 0x8000 then
    some { b with
      mem := b.mem.write (romKey (b.cart.romOffset n)) v
      cart := { b.cart with romSize := max b.cart.romSize (b.cart.romOffset n + 1) } }
  else if isBankRange n then (b.cart.ramOffset n).map fun off => { b with mem := b.mem.write (ramKey off) v }
  else match namedRegAt n with
    | some _ => none
    | none => (regionKey echo n).map fun k => { b with mem := b.mem.write k v }

/-- Place bytes at consecutive addresses from `a`. -/
def Bus.placeAll (echo : Bool) (b : Bus) (a : Word) : List Byte → Option Bus
  | [] => some b
  | v :: vs => (b.place echo a.toNat v).bind fun b => Bus.placeAll echo b (a + 1) vs

/-- The state whose very next step runs the instruction of the given bytes: they are placed at PC, or, where no array holds
the bytes at PC, at 0xC000 with PC moved there; a halt, a fatal mark and a dispatch that is due are taken away
(notes/assumptions/1.md). -/
def State.placeInstr (s : State) (bs : List Byte) : State :=
  let s := s.setCpu { s.cpu with halted := false, fatal := false, ime := s.cpu.ime && s.pending == 0 }
  match s.bus.placeAll s.config.echoRam s.cpu.pc bs with
  | some b => s.setBus b
  | none => (s.setPc 0xC000).setBus ((s.bus.placeAll s.config.echoRam 0xC000 bs).getD s.bus)

/-- Three bytes, zero bytes after those given. -/
def padded (bs : List Byte) : List Byte := [bs.getD 0 0, bs.getD 1 0, bs.getD 2 0]

end Sys2Proof.Machine
end

