-- ==== Sys2Proof/Machine/Step.lean ====
section
/-!
DEFINITION. One step of the whole block, and the placing of an instruction where the next step fetches it.
-/

namespace Sys2Proof.Machine

/-- One iteration of the frame driver (spec/60_exceptions.md R425), with the start-of-frame work in front of the first of a
frame: see `blockStep`. -/
def step (s : State) : Host.Outcome State Fault Refusal := blockStep s

/-- `s` with the instruction whose bits are `w`, numbered as the opcode table numbers them (`tableBytes`), where the next
step fetches it: see `State.placeInstr`. -/
def State.withFetchWord (s : State) (nbits w : Nat) : State := s.placeInstr (padded (tableBytes nbits w))

end Sys2Proof.Machine
end

