-- ==== Sys2Proof/Machine/Effects.lean ====
section
/-!
DEFINITION. The terms in which claims about instructions are stated: the field codes of the operands (spec/30_encoding.md
R142-R148), the instructions of one shape by their operand, the bytes an instruction stores, and the addresses whose read
a write can change (spec/20_memory.md R77).
-/

namespace Sys2Proof

/-! ### Field codes -/

/-- The code of a register in the field `r` (R142). -/
def R8.code : R8 → Nat
  | .b => 0
  | .c => 1
  | .d => 2
  | .e => 3
  | .h => 4
  | .l => 5
  | .a => 7

/-- The code of a pair in table `rp` (R143). -/
def Rp.code : Rp → Nat
  | .bc => 0
  | .de => 1
  | .hl => 2
  | .sp => 3

/-- The code of a pair in table `rp2` (R143). -/
def Rp2.code : Rp2 → Nat
  | .bc => 0
  | .de => 1
  | .hl => 2
  | .af => 3

/-- The code of a condition (R144). -/
def Cond.code : Cond → Nat
  | .nz => 0
  | .z => 1
  | .nc => 2
  | .c => 3

/-- The code of an ALU operation in the field `y` (spec/41_alu8.md R210). -/
def AluOp.code : AluOp → Nat
  | .add => 0
  | .adc => 1
  | .sub => 2
  | .sbc => 3
  | .and => 4
  | .xor => 5
  | .or => 6
  | .cp => 7

/-- The code of a rotate or shift in the field `y` (R148). -/
def RotOp.code : RotOp → Nat
  | .rlc => 0
  | .rrc => 1
  | .rl => 2
  | .rr => 3
  | .sla => 4
  | .sra => 5
  | .swap => 6
  | .srl => 7

/-- The code of an operand of the field `r`: 6 names the byte at HL (R142). -/
def Machine.Loc.code : Machine.Loc → Nat
  | .reg r => r.code
  | .atHL => 6

/-! ### Instructions of one shape, by operand -/

/-- The ALU instruction of an operation and a source (spec/41_alu8.md R210). -/
def aluI (op : AluOp) : Machine.Src → Instr
  | .reg r => aluRegI op r
  | .atHL => aluMemI op
  | .imm n8 => aluImmI n8 op

/-- INC r and INC (HL) (spec/41_alu8.md R238, R239). -/
def incI : Machine.Loc → Instr
  | .reg r => incRegI r
  | .atHL => .inc_atHL

/-- DEC r and DEC (HL) (spec/41_alu8.md R240, R241). -/
def decI : Machine.Loc → Instr
  | .reg r => decRegI r
  | .atHL => .dec_atHL

/-- The rotates and shifts of the extended table (spec/43_bit.md R275-R282). -/
def rotI (op : RotOp) : Machine.Loc → Instr
  | .reg r => rotRegI op r
  | .atHL => rotMemI op

/-- BIT b (spec/43_bit.md R283). -/
def bitI (b : BitIdx) : Machine.Loc → Instr
  | .reg r => bitRegI b r
  | .atHL => bitMemI b

/-- RES b (spec/43_bit.md R284). -/
def resI (b : BitIdx) : Machine.Loc → Instr
  | .reg r => resRegI b r
  | .atHL => resMemI b

/-- SET b (spec/43_bit.md R285). -/
def setI (b : BitIdx) : Machine.Loc → Instr
  | .reg r => setRegI b r
  | .atHL => setMemI b

/-- The loads of A (spec/40_load.md R175, R176, R179, R181, R183, R185, R186). -/
def loadAI : Machine.Addr → Instr
  | .bc => .ld_a_atBC
  | .de => .ld_a_atDE
  | .hlInc => .ld_a_atHLI
  | .hlDec => .ld_a_atHLD
  | .abs a16 => .ld_a_atA16 a16
  | .high a8 => .ldh_a_atA8 a8
  | .highC => .ldh_a_atC

/-- The stores of A (spec/40_load.md R177, R178, R180, R182, R184, R187, R188). -/
def storeAI : Machine.Addr → Instr
  | .bc => .ld_atBC_a
  | .de => .ld_atDE_a
  | .hlInc => .ld_atHLI_a
  | .hlDec => .ld_atHLD_a
  | .abs a16 => .ld_atA16_a a16
  | .high a8 => .ldh_atA8_a a8
  | .highC => .ldh_atC_a

namespace Machine

/-! ### What an instruction stores -/

/-- The two bytes of `push16(w)`, in the order they are stored (spec/40_load.md R200). -/
def State.pushStores (s : State) (w : Word) : List (Word × Byte) :=
  [(s.cpu.sp - 1, hi w), (s.cpu.sp - 2, lo w)]

/-- The byte an operand at HL gets back; a register operand stores nothing (spec/43_bit.md R274). -/
def State.locStores (s : State) (x : Loc) (f : Byte → Byte) : List (Word × Byte) :=
  match x with
  | .reg _ => []
  | .atHL => [(s.cpu.hl, f (s.read s.cpu.hl))]

/-- What an instruction of the extended table stores (spec/43_bit.md R274): BIT and the register forms nothing. -/
def State.extendedStores (s : State) (cbop : Byte) : List (Word × Byte) :=
  let y := cbop.toNat / 8 % 8
  let loc := match regField (cbop.toNat % 8) with
    | some r => Loc.reg r
    | none => Loc.atHL
  match cbop.toNat / 64 with
  | 0 => s.locStores loc (fun v => (rotExt (rotField y) v s.cpu.f).1)
  | 1 => []
  | 2 => s.locStores loc (resBit (bitField y))
  | _ => s.locStores loc (setBit (bitField y))

/-- The bytes an instruction stores through the bus, in order, each with its address, computed from the state it starts in.
An instruction that is not named stores nothing. -/
def storesOf (i : Instr) (s : State) : List (Word × Byte) :=
  match i with
  | .ld_atHL_b => [(s.cpu.hl, s.cpu.b)]
  | .ld_atHL_c => [(s.cpu.hl, s.cpu.c)]
  | .ld_atHL_d => [(s.cpu.hl, s.cpu.d)]
  | .ld_atHL_e => [(s.cpu.hl, s.cpu.e)]
  | .ld_atHL_h => [(s.cpu.hl, s.cpu.h)]
  | .ld_atHL_l => [(s.cpu.hl, s.cpu.l)]
  | .ld_atHL_a => [(s.cpu.hl, s.cpu.a)]
  | .ld_atHL_n8 n8 => [(s.cpu.hl, n8)]
  | .ld_atBC_a => [(s.addrOf .bc, s.cpu.a)]
  | .ld_atDE_a => [(s.addrOf .de, s.cpu.a)]
  | .ld_atHLI_a => [(s.addrOf .hlInc, s.cpu.a)]
  | .ld_atHLD_a => [(s.addrOf .hlDec, s.cpu.a)]
  | .ld_atA16_a a16 => [(s.addrOf (.abs a16), s.cpu.a)]
  | .ldh_atA8_a a8 => [(s.addrOf (.high a8), s.cpu.a)]
  | .ldh_atC_a => [(s.addrOf .highC, s.cpu.a)]
  | .ld_atA16_sp a16 => [(a16, lo s.cpu.sp), (a16 + 1, hi s.cpu.sp)]
  | .push_bc => s.pushStores s.cpu.bc
  | .push_de => s.pushStores s.cpu.de
  | .push_hl => s.pushStores s.cpu.hl
  | .push_af => s.pushStores s.cpu.af
  | .call_a16 _ => s.pushStores s.cpu.pc
  | .call_nz_a16 _ => if s.cpu.f.holds .nz then s.pushStores s.cpu.pc else []
  | .call_z_a16 _ => if s.cpu.f.holds .z then s.pushStores s.cpu.pc else []
  | .call_nc_a16 _ => if s.cpu.f.holds .nc then s.pushStores s.cpu.pc else []
  | .call_c_a16 _ => if s.cpu.f.holds .c then s.pushStores s.cpu.pc else []
  | .rst_00 => s.pushStores s.cpu.pc
  | .rst_08 => s.pushStores s.cpu.pc
  | .rst_10 => s.pushStores s.cpu.pc
  | .rst_18 => s.pushStores s.cpu.pc
  | .rst_20 => s.pushStores s.cpu.pc
  | .rst_28 => s.pushStores s.cpu.pc
  | .rst_30 => s.pushStores s.cpu.pc
  | .rst_38 => s.pushStores s.cpu.pc
  | .inc_atHL => s.locStores .atHL (fun v => (inc8 v s.cpu.f).1)
  | .dec_atHL => s.locStores .atHL (fun v => (dec8 v s.cpu.f).1)
  | .rlc_atHL => s.locStores .atHL (fun v => (rotExt .rlc v s.cpu.f).1)
  | .rrc_atHL => s.locStores .atHL (fun v => (rotExt .rrc v s.cpu.f).1)
  | .rl_atHL => s.locStores .atHL (fun v => (rotExt .rl v s.cpu.f).1)
  | .rr_atHL => s.locStores .atHL (fun v => (rotExt .rr v s.cpu.f).1)
  | .sla_atHL => s.locStores .atHL (fun v => (rotExt .sla v s.cpu.f).1)
  | .sra_atHL => s.locStores .atHL (fun v => (rotExt .sra v s.cpu.f).1)
  | .swap_atHL => s.locStores .atHL (fun v => (rotExt .swap v s.cpu.f).1)
  | .srl_atHL => s.locStores .atHL (fun v => (rotExt .srl v s.cpu.f).1)
  | .res_0_atHL => s.locStores .atHL (resBit .b0)
  | .res_1_atHL => s.locStores .atHL (resBit .b1)
  | .res_2_atHL => s.locStores .atHL (resBit .b2)
  | .res_3_atHL => s.locStores .atHL (resBit .b3)
  | .res_4_atHL => s.locStores .atHL (resBit .b4)
  | .res_5_atHL => s.locStores .atHL (resBit .b5)
  | .res_6_atHL => s.locStores .atHL (resBit .b6)
  | .res_7_atHL => s.locStores .atHL (resBit .b7)
  | .set_0_atHL => s.locStores .atHL (setBit .b0)
  | .set_1_atHL => s.locStores .atHL (setBit .b1)
  | .set_2_atHL => s.locStores .atHL (setBit .b2)
  | .set_3_atHL => s.locStores .atHL (setBit .b3)
  | .set_4_atHL => s.locStores .atHL (setBit .b4)
  | .set_5_atHL => s.locStores .atHL (setBit .b5)
  | .set_6_atHL => s.locStores .atHL (setBit .b6)
  | .set_7_atHL => s.locStores .atHL (setBit .b7)
  | .prefixCB =>
    if s.implements .extended (s.read s.cpu.pc) then s.extendedStores (s.read s.cpu.pc) else []
  | _ => []

/-- Whether `a'` is the echo of the work-RAM address `a` (R86). -/
def isEchoOf (a a' : Word) : Bool := 0xC000 ≤ a.toNat && a.toNat < 0xDE00 && a' == a + 0x2000

/-- The addresses whose read a `Write(a, v)` can change: `a` itself, and where the write has a wider effect (R77) also the
bank windows behind a control write, LY behind LCDC, OAM behind DMA, and the boot ROM's range behind BOOT. With `EchoRam` a
byte of work RAM shows at two addresses (R86). -/
def touches (echo : Bool) (a a' : Word) : Bool :=
  if a.toNat < 0x8000 then (0x4000 ≤ a'.toNat && a'.toNat < 0x8000) || (0xA000 ≤ a'.toNat && a'.toNat < 0xC000)
  else if a = 0xFF40 then a' == 0xFF40 || a' == 0xFF44
  else if a = 0xFF46 then a' == 0xFF46 || (0xFE00 ≤ a'.toNat && a'.toNat < 0xFEA0)
  else if a = 0xFF50 then a' == 0xFF50 || a'.toNat < 0x100
  else a' == a || (echo && (isEchoOf a a' || isEchoOf a' a))

end Machine

end Sys2Proof
end

