-- ==== Sys2Proof/Machine/HostPort.lean ====
section
/-!
DEFINITION. The host interface (spec/60_exceptions.md R427-R429): power-on with its two resets
(spec/70_reset_and_hazards.md R450-R457), taking the frame, saving the cartridge RAM, the header information, the
cartridge swap and the warnings.
-/

namespace Sys2Proof.Machine

/-- The boot ROM input: none, a configured file that is missing, or 256 bytes (R451, R452, spec/90_conflicts.md C5). -/
inductive BootRom where
  | absent
  | missingFile
  | image (bytes : List Byte)
  deriving DecidableEq, Repr

/-- The 256 bytes of a supplied boot ROM; missing bytes are zero and further ones are ignored (R452,
notes/assumptions/16.md). -/
def BootRom.bytes : BootRom → Option (List Byte)
  | .absent => none
  | .missingFile => some (List.replicate 256 0)
  | .image bs => some ((bs ++ List.replicate 256 0).take 256)

/-- What the host supplies when the block is built (R428, R429); `cartridge := none` is a missing ROM file (R453). -/
structure Supply where
  config : Config := {}
  cartridge : Option Image := none
  bootRom : BootRom := .absent
  saveRam : Option (List Byte) := none
  inputs : List Buttons := []
  deriving DecidableEq, Repr

/-- Why the host's cartridge is not loaded. -/
inductive LoadRefusal where
  /-- The header's ROM-size code is above 8 (spec/20_memory.md R112, D22). Safe. -/
  | romSizeCode (code : Byte)
  deriving DecidableEq, Repr

/-- Building the block: the post-boot reset without a boot ROM (R450), the boot-ROM reset with one (R451). -/
def powerOn (h : Supply) : Except LoadRefusal State :=
  let img := h.cartridge.getD Image.blank
  match Cart.load img with
  | none => .error (.romSizeCode (img.byte 0x0148))
  | some cart =>
    match h.bootRom.bytes with
    | none =>
      .ok { config := h.config, cpu := Cpu.postBoot,
            bus := Bus.postBoot (((Memory.postBoot h.config.initialRam).loadRom img).loadSave cart h.saveRam) cart,
            ppu := Ppu.initial, divAcc := 0, frameCycles := 0, inputs := h.inputs }
    | some boot =>
      .ok { config := h.config, cpu := Cpu.bootRom,
            bus := Bus.bootRom
              ((((Memory.bootRom h.config.initialRam).loadRom img).loadSave cart h.saveRam).writeRun bootKey 0 boot) cart,
            ppu := Ppu.initial, divAcc := 0, frameCycles := 0, inputs := h.inputs }

/-- The host takes the frame: the frame buffer, and the state with `frameReady` cleared (R400, D46). -/
def State.takeFrame (s : State) : List (List Shade) × State :=
  (s.ppu.frame, { s with ppu := { s.ppu with frameReady := false } })

/-- The host's colours of a frame under its palette, the parameter `DisplayPalette` (R400, D29). -/
def display {Colour : Type} (palette : Shade → Colour) (frame : List (List Shade)) : List (List Colour) :=
  frame.map (·.map palette)

/-- The battery RAM the host saves: `ramSize` bytes, for battery families only (spec/20_memory.md R114, R128). DESIGN CHOICE:
a battery family without RAM hands the host nothing, not an empty save (notes/assumptions/24.md). -/
def State.saveRam (s : State) : Option (List Byte) :=
  if s.bus.cart.battery = true ∧ s.bus.cart.ramSize > 0 then
    some ((List.range s.bus.cart.ramSize).map fun off => s.bus.mem.read (ramKey off))
  else none

/-- The cartridge swap: the old battery RAM for the host, and the block rebuilt from what it supplies (R428). -/
def State.swapCartridge (s : State) (h : Supply) : Option (List Byte) × Except LoadRefusal State := (s.saveRam, powerOn h)

/-! ### Header information (spec/20_memory.md R110, R116) -/

/-- Drop NULs and spaces from the front. -/
def dropBlank : List Byte → List Byte
  | [] => []
  | c :: l => if c = 0x00 ∨ c = 0x20 then dropBlank l else c :: l

/-- The title: 0x0134-0x0143, NULs and spaces trimmed at both ends (R110, notes/assumptions/15.md). -/
def Image.title (img : Image) : List Byte :=
  (dropBlank (dropBlank ((List.range 16).map fun i => img.byte (0x0134 + i))).reverse).reverse

/-- The controller line of the header information. The texts but for "MBC0/ROM ONLY" are the model's
(notes/assumptions/14.md). -/
def familyText : Family → String
  | .romOnly => "MBC0/ROM ONLY"
  | .mbc1 => "MBC1"
  | .mbc3 => "MBC3"
  | .mbc5 => "MBC5"

/-- The ROM line of the header information (notes/assumptions/14.md). -/
def romText (c : Cart) : String :=
  toString (c.romBanks * 16) ++ " KiB (" ++ toString c.romBanks ++ " ROM banks, " ++
    (if c.family = .romOnly then "No Banking)" else "Banking)")

/-- The RAM line of the header information (notes/assumptions/14.md). -/
def ramText (c : Cart) : String :=
  if c.ramSize = 0 then "No RAM" else toString (c.ramSize / 1024) ++ " KiB (" ++ toString c.ramBanks ++ " RAM banks)"

/-- The header-information interface: title, controller, ROM size, RAM size (R116). -/
def headerInfo (img : Image) : Option (List Byte × String × String × String) :=
  (Cart.load img).map fun c => (img.title, familyText c.family, romText c, ramText c)

/-! ### Warnings to the host (spec/60_exceptions.md R429); they change no state (R364) -/

/-- A warning the block gives the host. -/
inductive Warning where
  /-- The header's controller-type code is not in the table of spec/20_memory.md R111. -/
  | unknownController (code : Byte)
  /-- The header's RAM-size code is not in the table of spec/20_memory.md R113. -/
  | unknownRamSize (code : Byte)
  /-- A write to an address that no region claims (spec/20_memory.md R90). -/
  | outOfRangeWrite (a : Word)
  deriving DecidableEq, Repr

/-- The codes of spec/20_memory.md R111. -/
def knownControllers : List Byte :=
  [0x00, 0x01, 0x02, 0x03, 0x0F, 0x10, 0x11, 0x12, 0x13, 0x19, 0x1A, 0x1B, 0x1C, 0x1D, 0x1E]

/-- The warnings at a load (spec/20_memory.md R111, R113). -/
def Image.warnings (img : Image) : List Warning :=
  (if knownControllers.contains (img.byte 0x0147) then [] else [.unknownController (img.byte 0x0147)]) ++
    (if (img.byte 0x0149).toNat ≤ 5 then [] else [.unknownRamSize (img.byte 0x0149)])

/-- The warning of a write to address `a`, if there is one (spec/20_memory.md R81, R90). -/
def writeWarning (echo : Bool) (a : Word) : Option Warning :=
  if isBankRange a.toNat ∨ (namedRegAt a.toNat).isSome ∨ (regionKey echo a.toNat).isSome then none
  else some (.outOfRangeWrite a)

end Sys2Proof.Machine
end

