-- ==== Sys2Proof/Safety.lean ====
section
/-!
DEFINITION. What counts as a safe step, and the invariant of the block: the promises of spec/10_state.md R49-R53 and the
canonical form of storage. Claims are stated in these terms.
-/

namespace Sys2Proof.Machine

/-- A step from `s` answers a next state: neither the fatal outcome nor a refusal. -/
def State.Runs (s : State) : Prop := ∃ t, step s = .next t

/-- The bank registers hold values their family can be given (spec/20_memory.md R123-R126, R111-R113). -/
def Cart.Legal (c : Cart) : Prop :=
  (∃ code : Byte, romBanksOf code = some c.romBanks) ∧ (∃ code : Byte, ramSizeOf code = (c.ramSize, c.ramBanks)) ∧
  match c.family with
  | .romOnly => c.romBank = 1 ∧ c.ramBank = 0 ∧ c.ramEnabled = false
  | .mbc1 => 1 ≤ c.romBank.toNat ∧ c.romBank.toNat ≤ 0x1F ∧ c.ramBank.toNat ≤ 3
  | .mbc3 => 1 ≤ c.romBank.toNat ∧ c.romBank.toNat ≤ 0x7F ∧ c.ramBank.toNat ≤ 3
  | .mbc5 => True

/-- The scanline fits the phase: 0-143 outside vertical blank, 144-153 inside it (spec/10_state.md R50,
spec/60_exceptions.md R381). -/
def Mode.fitsLine (m : Mode) (ly : Nat) : Prop :=
  match m with
  | .vblank => 144 ≤ ly ∧ ly ≤ 153
  | _ => ly ≤ 143

/-- The frame buffer is 144 rows of 160 shades (spec/60_exceptions.md R400). -/
def FrameShape (f : List (List Shade)) : Prop := f.length = 144 ∧ ∀ row ∈ f, row.length = 160

/-- The invariant of the block between two steps: storage canonical; bank registers legal; the PPU's accumulator below the
phase's length and the scanline fitting the phase (spec/10_state.md R50); LY at 0 while the LCD is off
(spec/60_exceptions.md R382); the divider's accumulator below 256 (R51); the
frame's shape; the driver's count never past the budget by a whole step (spec/70_reset_and_hazards.md R467). -/
structure State.Inv (s : State) : Prop where
  memory : s.bus.mem.wf
  banks : s.bus.cart.Legal
  dots : s.ppu.dots < s.ppu.mode.length
  line : s.ppu.mode.fitsLine s.bus.ly.toNat
  lcdOff : bitOf s.bus.lcdc 7 = false → s.bus.ly = 0
  divider : s.divAcc < 256
  frame : FrameShape s.ppu.frame
  count : s.frameCycles < frameBudget + 24

end Sys2Proof.Machine
end

