-- ==== Sys2Proof/WellFormed.lean ====
section
/-!
DEFINITION. Well-formed instructions: those that stand for a whole instruction of the table.
-/

namespace Sys2Proof

/-- The eleven bytes of the primary table with no dispatch entry (spec/30_encoding.md R149). -/
def illegalOpcodes : List Byte := [0xD3, 0xDB, 0xDD, 0xE3, 0xE4, 0xEB, 0xEC, 0xED, 0xF4, 0xFC, 0xFD]

/-- An instruction is well formed when its operands are ones its encoding admits: `illegal` carries one of the eleven holes
(R149), and the prefix alone is not an instruction of its own (spec/45_system.md R332). Every other operand has exactly the
values its field has, by its type. -/
def Instr.wf : Instr → Bool
  | .illegal op => illegalOpcodes.contains op
  | .prefixCB => false
  | _ => true

end Sys2Proof
end

