-- ==== Sys2Proof/Certificates/Slice0/Obligations.lean ====
section
/-!
DEFINITION. The statements for the provers, one `def Obligations.<Name> : Prop` each, and before them the few functions they
are stated with. Flags and results are written in numbers (`toNat`, sums, remainders), apart from the model's own bit
operations.
-/

namespace Sys2Proof.Claims

open Sys2Proof.Machine

/-- The CPU's next step fetches an instruction: no fatal mark, not halted, no dispatch due. -/
def Fetches (s : State) : Prop := s.cpu.fatal = false ∧ s.cpu.halted = false ∧ ¬(s.cpu.ime = true ∧ s.pending ≠ 0)

/-- The bytes of an ALU instruction (spec/41_alu8.md R210). -/
def aluBytes (op : AluOp) (x : Src) : List Byte :=
  match x with
  | .reg r => [BitVec.ofNat 8 (0x80 + 8 * op.code + r.code)]
  | .atHL => [BitVec.ofNat 8 (0x86 + 8 * op.code)]
  | .imm n8 => [BitVec.ofNat 8 (0xC6 + 8 * op.code), n8]

/-- The cost of an ALU instruction (spec/41_alu8.md R210). -/
def aluCost (x : Src) : Nat :=
  match x with
  | .reg _ => 4
  | .atHL => 8
  | .imm _ => 8

/-- The F2 opcodes of spec/30_encoding.md R151. -/
def twoByteOpcodes : List Byte :=
  [0x06, 0x0E, 0x10, 0x16, 0x18, 0x1E, 0x20, 0x26, 0x28, 0x2E, 0x30, 0x36, 0x38, 0x3E] ++
  [0xC6, 0xCE, 0xD6, 0xDE, 0xE0, 0xE6, 0xE8, 0xEE, 0xF0, 0xF6, 0xF8, 0xFE]

/-- The F3 opcodes of spec/30_encoding.md R151. -/
def threeByteOpcodes : List Byte :=
  [0x01, 0x08, 0x11, 0x21, 0x31, 0xC2, 0xC3, 0xC4, 0xCA, 0xCC, 0xCD, 0xD2, 0xD4, 0xDA, 0xDC, 0xEA, 0xFA]

/-- Half-carry and carry of SP plus a signed byte, by the parameter `SpOffsetFlags` (spec/42_alu16.md R261). -/
def spCarries (rule : SpOffsetFlags) (sp : Nat) (e8 : Byte) : Bool × Bool :=
  let u := (e8.toInt % 65536).toNat
  match rule with
  | .lowByte => (decide (sp % 16 + e8.toNat % 16 > 15), decide (sp % 256 + e8.toNat > 255))
  | .bits11And15 => (decide (sp % 4096 + u % 4096 > 4095), decide (sp + u > 65535))

/-- The result and the carry out of a rotate or shift of `v` with carry in `ci`, in numbers (spec/43_bit.md R275-R282). -/
def rotated (op : RotOp) (v ci : Nat) : Nat × Nat :=
  match op with
  | .rlc => ((2 * v) % 256 + v / 128, v / 128)
  | .rrc => (v / 2 + 128 * (v % 2), v % 2)
  | .rl => ((2 * v) % 256 + ci, v / 128)
  | .rr => (v / 2 + 128 * ci, v % 2)
  | .sla => ((2 * v) % 256, v / 128)
  | .sra => (v / 2 + 128 * (v / 128), v % 2)
  | .swap => (16 * (v % 16) + v / 16, 0)
  | .srl => (v / 2, v % 2)

/-- The adjustment DAA makes (spec/41_alu8.md R242), in numbers. -/
def daaAdjust (a : Nat) (f : Flags) : Nat :=
  (if f.c = true ∨ (f.n = false ∧ a > 0x99) then 0x60 else 0) +
    (if f.h = true ∨ (f.n = false ∧ a % 16 > 9) then 0x06 else 0)

/-- A number below 100 as a packed decimal byte. -/
def packedDecimal (n : Nat) : Byte := BitVec.ofNat 8 (16 * (n / 10) + n % 10)

/-- How far the PPU is in its line of 456 dots (spec/60_exceptions.md R381). -/
def lineDots (p : Ppu) : Nat :=
  match p.mode with
  | .oamSearch => p.dots
  | .transfer => 80 + p.dots
  | .hblank => 252 + p.dots
  | .vblank => p.dots

/-- The PPU's state fits its phase and the scanline, and the LCD is on. -/
def PpuRuns (s : State) : Prop :=
  bitOf s.bus.lcdc 7 = true ∧ s.ppu.dots < s.ppu.mode.length ∧ s.ppu.mode.fitsLine s.bus.ly.toNat

/-- IF with bit 1 requested where `p` holds (spec/60_exceptions.md R388). -/
def statIf (ifr : Byte) (p : Bool) : Byte := if p then ifr ||| 0x02 else ifr

/-- The stored bits of STAT with the coincidence flag and the mode field replaced (spec/10_state.md R38). -/
def statWith (stat : BitVec 7) (coincidence : Bool) (mode : BitVec 2) : BitVec 7 :=
  (stat.extractLsb' 3 4 ++ BitVec.ofBool coincidence) ++ mode

/-- A bit of a byte as a number. -/
def bitNat (v : Byte) (i : Nat) : Nat := v.toNat / 2 ^ i % 2

/-- The colour index at row `row`, column `col` of the tile at VRAM offset `off` (spec/60_exceptions.md R395). -/
def colourAt (b : Bus) (off row col : Nat) : Nat :=
  bitNat (b.mem.read (0x8000 + (off + 2 * row))) (7 - col) + 2 * bitNat (b.mem.read (0x8000 + (off + 2 * row + 1))) (7 - col)

/-- The VRAM offset of background or window tile `t` (spec/60_exceptions.md R395). -/
def tileOffset (b : Bus) (t : Byte) : Nat :=
  if bitOf b.lcdc 4 = true then 16 * t.toNat else if t.toNat < 128 then 0x1000 + 16 * t.toNat else 16 * t.toNat

/-- The colour index at map position (`y`, `x`) of the tile map at VRAM offset `map` (spec/60_exceptions.md R396, R397). -/
def mapColour (b : Bus) (map y x : Nat) : Nat :=
  colourAt b (tileOffset b (b.mem.read (0x8000 + (map + y / 8 * 32 + x / 8)))) (y % 8) (x % 8)

/-- OAM entry `i` meets scanline `ly` (spec/60_exceptions.md R398). -/
def meets (b : Bus) (ly i : Nat) : Bool :=
  let y := (b.mem.read (0xFE00 + 4 * i)).toNat
  decide (y ≤ ly + 16 ∧ ly + 16 < y + (if bitOf b.lcdc 2 = true then 16 else 8))

/-- Sprite `q` covers column `x` with an opaque pixel (spec/60_exceptions.md R399). -/
def Opaque (b : Bus) (ly x : Nat) (q : Sprite) : Prop :=
  q.x.toNat ≤ x + 8 ∧ x < q.x.toNat ∧ b.spriteIndex ly x q ≠ 0

/-- Controller-type code, family and battery (spec/20_memory.md R111). -/
def controllerRows : List (Byte × Family × Bool) :=
  [(0x00, .romOnly, false), (0x01, .mbc1, false), (0x02, .mbc1, false), (0x03, .mbc1, true), (0x0F, .mbc3, true)] ++
  [(0x10, .mbc3, true), (0x11, .mbc3, false), (0x12, .mbc3, false), (0x13, .mbc3, true), (0x19, .mbc5, false)] ++
  [(0x1A, .mbc5, false), (0x1B, .mbc5, true), (0x1C, .mbc5, false), (0x1D, .mbc5, false), (0x1E, .mbc5, true)]

/-- RAM-size code, bytes and banks (spec/20_memory.md R113). -/
def ramSizeRows : List (Byte × Nat × Nat) :=
  [(0x00, 0, 0), (0x01, 0x800, 1), (0x02, 0x2000, 1), (0x03, 0x8000, 4), (0x04, 0x20000, 16), (0x05, 0x10000, 8)]

end Sys2Proof.Claims

section
open Sys2Proof Sys2Proof.Machine Sys2Proof.Claims

/-- Bytes written out by hand from the encodings of the rules decode to the instruction they stand for: LD A,B is 0x78; LD
A,0x42 is 0x3E 0x42; LD A,(0xC000) is 0xFA 0x00 0xC0; JP 0x0150 is 0xC3 0x50 0x01; LD SP,0xFFFE is 0x31 0xFE 0xFF; JR
NZ,-4 is 0x20 0xFC; LDH (0x46),A is 0xE0 0x46; RST 0x28 is 0xEF; SWAP A is 0xCB 0x37; SET 3,(HL) is 0xCB 0xDE. A
sanity statement. -/
def Obligations.DecodedWords : Prop :=
  decode [0x78] = .ok (.ld_a_b, []) ∧ decode [0x3E, 0x42, 0x00] = .ok (.ld_a_n8 0x42, [0x00]) ∧
  decode [0xFA, 0x00, 0xC0] = .ok (.ld_a_atA16 0xC000, []) ∧ decode [0xC3, 0x50, 0x01] = .ok (.jp_a16 0x0150, []) ∧
  decode [0x31, 0xFE, 0xFF] = .ok (.ld_sp_n16 0xFFFE, []) ∧ decode [0x20, 0xFC, 0x76] = .ok (.jr_nz_e8 0xFC, [0x76]) ∧
  decode [0xE0, 0x46] = .ok (.ldh_atA8_a 0x46, []) ∧ decode [0xEF, 0xCB] = .ok (.rst_28, [0xCB]) ∧
  decode [0xCB, 0x37] = .ok (.swap_a, []) ∧ decode [0xCB, 0xDE] = .ok (.set_3_atHL, [])

/-- For every well-formed instruction i, with every value of every operand, and whatever bytes follow, decoding the bytes
of encode i answers i and leaves exactly the bytes that follow. -/
def Obligations.DecodeOfEncode : Prop :=
  ∀ (i : Instr) (rest : List Byte), i.wf = true → decode (encode i ++ rest) = .ok (i, rest)

/-- For any three bytes, the instruction the decoder reads from them is well formed, and its encoding is the first bytes
of the three, as many as the length of the first byte: decode is total, no two byte sequences share an instruction,
and no bit is dropped. -/
def Obligations.EncodeOfDecode : Prop :=
  ∀ b0 b1 b2 : Byte, (decode3 b0 b1 b2).wf = true ∧ encode (decode3 b0 b1 b2) = [b0, b1, b2].take (lengthOf b0)

/-- The instruction that starts with byte b is 2 bytes long when b is 0xCB or one of the F2 opcodes listed in R151, 3
bytes long when b is one of the F3 opcodes, and 1 byte long for every other byte, the illegal ones included; and three
bytes always decode. -/
def Obligations.InstructionLengths : Prop :=
  ∀ b : Byte,
    lengthOf b = (if b = 0xCB ∨ b ∈ twoByteOpcodes then 2 else if b ∈ threeByteOpcodes then 3 else 1) ∧
    ∀ b1 b2 : Byte, decode [b, b1, b2] = .ok (decode3 b b1 b2, [b, b1, b2].drop (lengthOf b))

/-- The decoder reads an illegal instruction exactly from the eleven bytes of R149; every byte of the extended table is an
instruction that is not illegal; and running an illegal opcode answers the state with the fatal mark set, the address
of the opcode byte in fatalAddr and PC back at it, all else unchanged. That the fatal outcome is a next state is the
model's choice (notes/assumptions/5.md), and so is the cost it leaves as it was (6.md). -/
def Obligations.IllegalOpcodes : Prop :=
  (∀ b0 b1 b2 : Byte, (∃ op, decode3 b0 b1 b2 = .illegal op) ↔
    b0 ∈ ([0xD3, 0xDB, 0xDD, 0xE3, 0xE4, 0xEB, 0xEC, 0xED, 0xF4, 0xFC, 0xFD] : List Byte)) ∧
  (∀ b0 b1 b2 op : Byte, decode3 b0 b1 b2 = .illegal op → op = b0) ∧
  (∀ cbop b2 op : Byte, decode3 0xCB cbop b2 ≠ .illegal op) ∧
  (∀ (op : Byte) (s : State), exec (.illegal op) s =
    .next { s with cpu := { s.cpu with fatal := true, fatalAddr := s.cpu.pc - 1, pc := s.cpu.pc - 1 } })

/-- Writing an 8-bit register changes that register and nothing else of the CPU. The pairs are views: BC, DE, HL and AF
are 256 times the first half plus the second, and a write to a pair writes both halves and nothing else. F packs Z, N,
H, C in bits 7 to 4 with zeros below; writing F takes the flags from bits 7 to 4 and discards the rest. After the
post-boot reset F is 0xB0, after the boot-ROM reset 0. -/
def Obligations.RegistersPairsAndFlags : Prop :=
  (∀ (c : Cpu) (r q : R8) (v : Byte), (c.setReg r v).reg q = if q = r then v else c.reg q) ∧
  (∀ (c : Cpu) (r : R8) (v : Byte), let d := c.setReg r v;
    d = { c with a := d.a, b := d.b, c := d.c, d := d.d, e := d.e, h := d.h, l := d.l }) ∧
  (∀ c : Cpu, c.bc.toNat = 256 * c.b.toNat + c.c.toNat ∧ c.de.toNat = 256 * c.d.toNat + c.e.toNat ∧
    c.hl.toNat = 256 * c.h.toNat + c.l.toNat ∧ c.af.toNat = 256 * c.a.toNat + c.f.pack.toNat) ∧
  (∀ (c : Cpu) (w : Word),
    let x := BitVec.ofNat 8 (w.toNat / 256)
    let y := BitVec.ofNat 8 (w.toNat % 256);
    c.setPair .bc w = { c with b := x, c := y } ∧ c.setPair .de w = { c with d := x, e := y } ∧
    c.setPair .hl w = { c with h := x, l := y } ∧ c.setPair .sp w = { c with sp := w } ∧
    c.setStackPair .af w = { c with a := x, f := Flags.unpack y } ∧
    ∀ p ∈ [(Rp2.bc, Rp.bc), (Rp2.de, Rp.de), (Rp2.hl, Rp.hl)],
      c.setStackPair p.1 w = c.setPair p.2 w ∧ c.stackPair p.1 = c.pair p.2) ∧
  (∀ f : Flags, f.pack.toNat = 128 * f.z.toNat + 64 * f.n.toNat + 32 * f.h.toNat + 16 * f.c.toNat) ∧
  (∀ v : Byte, Flags.unpack v = ⟨bitOf v 7, bitOf v 6, bitOf v 5, bitOf v 4⟩ ∧ (Flags.unpack v).pack = v &&& 0xF0) ∧
  State.reset.cpu.f.pack = 0xB0 ∧ Cpu.bootRom.f.pack = 0

/-- For every register operand and every immediate: the encoding, and the whole next state. LD r,r' copies a register
(cost 4), LD r,n8 loads the immediate (8), LD r,(HL) loads the byte read at the old HL (8); nothing else changes. LD
(HL),r (8) and LD (HL),n8 (12) write one byte through the bus at HL and change no register and no flag. -/
def Obligations.ByteLoadsAndStores : Prop :=
  ∀ s : State,
  (∀ dst r : R8, encode (ldRegRegI dst r) = [BitVec.ofNat 8 (0x40 + 8 * dst.code + r.code)] ∧
    exec (ldRegRegI dst r) s = .next { s with cpu := { s.cpu.setReg dst (s.cpu.reg r) with cost := 4 } }) ∧
  (∀ (dst : R8) (n8 : Byte), encode (ldRegImmI n8 dst) = [BitVec.ofNat 8 (0x06 + 8 * dst.code), n8] ∧
    exec (ldRegImmI n8 dst) s = .next { s with cpu := { s.cpu.setReg dst n8 with cost := 8 } }) ∧
  (∀ dst : R8, encode (ldRegMemI dst) = [BitVec.ofNat 8 (0x46 + 8 * dst.code)] ∧
    exec (ldRegMemI dst) s = .next { s with cpu := { s.cpu.setReg dst (s.read s.cpu.hl) with cost := 8 } }) ∧
  (∀ r : R8, encode (ldMemRegI r) = [BitVec.ofNat 8 (0x70 + r.code)] ∧
    exec (ldMemRegI r) s = .next { s with
      cpu := { s.cpu with cost := 8 }, bus := s.bus.write s.config.echoRam s.cpu.hl (s.cpu.reg r) }) ∧
  (∀ n8 : Byte, encode (.ld_atHL_n8 n8) = [0x36, n8] ∧
    exec (.ld_atHL_n8 n8) s = .next { s with
      cpu := { s.cpu with cost := 12 }, bus := s.bus.write s.config.echoRam s.cpu.hl n8 })

/-- For each memory form: the encoding, and the whole next state. A becomes the byte read through the bus at the effective
address; (HL+) and (HL-) then move HL by one, mod 2^16; the costs are 8, 16 for (a16) and 12 for (a8); no flag, no
other register and no memory changes. -/
def Obligations.LoadsOfA : Prop :=
  ∀ s : State,
  (encode .ld_a_atBC = [0x0A] ∧
    exec .ld_a_atBC s = .next { s with cpu := { s.cpu with a := s.read s.cpu.bc, cost := 8 } }) ∧
  (encode .ld_a_atDE = [0x1A] ∧
    exec .ld_a_atDE s = .next { s with cpu := { s.cpu with a := s.read s.cpu.de, cost := 8 } }) ∧
  (∀ a16 : Word, encode (.ld_a_atA16 a16) = [0xFA, lo a16, hi a16] ∧
    exec (.ld_a_atA16 a16) s = .next { s with cpu := { s.cpu with a := s.read a16, cost := 16 } }) ∧
  (∀ a8 : Byte, encode (.ldh_a_atA8 a8) = [0xF0, a8] ∧
    exec (.ldh_a_atA8 a8) s =
      .next { s with cpu := { s.cpu with a := s.read (BitVec.ofNat 16 (0xFF00 + a8.toNat)), cost := 12 } }) ∧
  (encode .ldh_a_atC = [0xF2] ∧
    exec .ldh_a_atC s =
      .next { s with cpu := { s.cpu with a := s.read (BitVec.ofNat 16 (0xFF00 + s.cpu.c.toNat)), cost := 8 } }) ∧
  (encode .ld_a_atHLI = [0x2A] ∧
    exec .ld_a_atHLI s = .next { s with cpu :=
      { s.cpu with a := s.read s.cpu.hl, h := hi (s.cpu.hl + 1), l := lo (s.cpu.hl + 1), cost := 8 } }) ∧
  (encode .ld_a_atHLD = [0x3A] ∧
    exec .ld_a_atHLD s = .next { s with cpu :=
      { s.cpu with a := s.read s.cpu.hl, h := hi (s.cpu.hl - 1), l := lo (s.cpu.hl - 1), cost := 8 } })

/-- For each memory form: the encoding, and the whole next state. A is written through the bus at the effective address
taken before HL moves; (HL+) and (HL-) then move HL by one, mod 2^16; the costs are 8, 16 for (a16) and 12 for (a8);
no flag and no other register changes. -/
def Obligations.StoresOfA : Prop :=
  ∀ s : State, let wr := s.bus.write s.config.echoRam;
  (encode .ld_atBC_a = [0x02] ∧
    exec .ld_atBC_a s = .next { s with bus := wr s.cpu.bc s.cpu.a, cpu := { s.cpu with cost := 8 } }) ∧
  (encode .ld_atDE_a = [0x12] ∧
    exec .ld_atDE_a s = .next { s with bus := wr s.cpu.de s.cpu.a, cpu := { s.cpu with cost := 8 } }) ∧
  (∀ a16 : Word, encode (.ld_atA16_a a16) = [0xEA, lo a16, hi a16] ∧
    exec (.ld_atA16_a a16) s = .next { s with bus := wr a16 s.cpu.a, cpu := { s.cpu with cost := 16 } }) ∧
  (∀ a8 : Byte, encode (.ldh_atA8_a a8) = [0xE0, a8] ∧
    exec (.ldh_atA8_a a8) s = .next { s with
      bus := wr (BitVec.ofNat 16 (0xFF00 + a8.toNat)) s.cpu.a, cpu := { s.cpu with cost := 12 } }) ∧
  (encode .ldh_atC_a = [0xE2] ∧
    exec .ldh_atC_a s = .next { s with
      bus := wr (BitVec.ofNat 16 (0xFF00 + s.cpu.c.toNat)) s.cpu.a, cpu := { s.cpu with cost := 8 } }) ∧
  (encode .ld_atHLI_a = [0x22] ∧
    exec .ld_atHLI_a s = .next { s with
      bus := wr s.cpu.hl s.cpu.a
      cpu := { s.cpu with h := hi (s.cpu.hl + 1), l := lo (s.cpu.hl + 1), cost := 8 } }) ∧
  (encode .ld_atHLD_a = [0x32] ∧
    exec .ld_atHLD_a s = .next { s with
      bus := wr s.cpu.hl s.cpu.a
      cpu := { s.cpu with h := hi (s.cpu.hl - 1), l := lo (s.cpu.hl - 1), cost := 8 } })

/-- LD rr,n16 loads the pair (cost 12). LD (a16),SP writes the low byte of SP at a16 and then the high byte at a16 + 1 mod
2^16 (cost 20). LD SP,HL copies HL (cost 8). Nothing else changes. With the encodings. -/
def Obligations.WordLoads : Prop :=
  ∀ s : State,
  (∀ (p : Rp) (n16 : Word), encode (ldPairImmI n16 p) = [BitVec.ofNat 8 (0x01 + 16 * p.code), lo n16, hi n16] ∧
    exec (ldPairImmI n16 p) s = .next { s with cpu := { s.cpu.setPair p n16 with cost := 12 } }) ∧
  (∀ a16 : Word, encode (.ld_atA16_sp a16) = [0x08, lo a16, hi a16] ∧
    exec (.ld_atA16_sp a16) s = .next { s with
      cpu := { s.cpu with cost := 20 }
      bus := (s.bus.write s.config.echoRam a16 (lo s.cpu.sp)).write s.config.echoRam (a16 + 1) (hi s.cpu.sp) }) ∧
  (encode .ld_sp_hl = [0xF9] ∧
    exec .ld_sp_hl s = .next { s with cpu := { s.cpu with sp := s.cpu.hl, cost := 8 } })

/-- For every signed byte e8: the result is SP + e8 mod 2^16, put in HL (cost 12, SP unchanged) or in SP (cost 16); Z and
N are cleared; H and C are the carries out of bits 3 and 7 of the low-byte sum under SpOffsetFlags = LowByte, and out
of bits 11 and 15 under Bits11_15. Nothing else changes. With the encodings. -/
def Obligations.StackPointerOffset : Prop :=
  ∀ (e8 : Byte) (s : State),
  let r := BitVec.ofInt 16 (s.cpu.sp.toNat + e8.toInt)
  let hc := spCarries s.config.spOffsetFlags s.cpu.sp.toNat e8;
  encode (.ld_hl_sp_e8 e8) = [0xF8, e8] ∧ encode (.add_sp_e8 e8) = [0xE8, e8] ∧
  exec (.ld_hl_sp_e8 e8) s = .next { s with cpu :=
    { s.cpu with h := hi r, l := lo r, f := ⟨false, false, hc.1, hc.2⟩, cost := 12 } } ∧
  exec (.add_sp_e8 e8) s = .next { s with cpu :=
    { s.cpu with sp := r, f := ⟨false, false, hc.1, hc.2⟩, cost := 16 } }

/-- PUSH rr writes the high byte at SP - 1 and then the low byte at SP - 2 through the bus and leaves SP two lower (cost
16). POP rr reads the low byte at SP and the high byte at SP + 1 and leaves SP two higher (cost 12); POP AF takes A
from the high byte and the flags from bits 7 to 4 of the low byte. Addresses wrap mod 2^16; no other flag or register
and, for POP, no memory changes. With the encodings. -/
def Obligations.PushAndPop : Prop :=
  ∀ s : State,
  (∀ p : Rp2, encode (pushI p) = [BitVec.ofNat 8 (0xC5 + 16 * p.code)] ∧
    exec (pushI p) s = .next { s with
      cpu := { s.cpu with sp := s.cpu.sp - 2, cost := 16 }
      bus := (s.bus.write s.config.echoRam (s.cpu.sp - 1) (hi (s.cpu.stackPair p))).write s.config.echoRam
        (s.cpu.sp - 2) (lo (s.cpu.stackPair p)) }) ∧
  (∀ p : Rp2, encode (popI p) = [BitVec.ofNat 8 (0xC1 + 16 * p.code)]) ∧
  (∀ pq ∈ [(Rp2.bc, Rp.bc), (Rp2.de, Rp.de), (Rp2.hl, Rp.hl)], exec (popI pq.1) s = .next { s with cpu :=
    { s.cpu.setPair pq.2 (w16 (s.read (s.cpu.sp + 1)) (s.read s.cpu.sp)) with sp := s.cpu.sp + 2, cost := 12 } }) ∧
  (let l := s.read s.cpu.sp;
    exec .pop_af s = .next { s with cpu := { s.cpu with
      a := s.read (s.cpu.sp + 1), f := ⟨bitOf l 7, bitOf l 6, bitOf l 5, bitOf l 4⟩, sp := s.cpu.sp + 2, cost := 12 } })

/-- For every source operand: A becomes A + s, or A + s + C for ADC, mod 256; Z is set iff that is 0, N is cleared, H is
the carry out of bit 3 and C the carry out of bit 7; the cost is 4 for a register and 8 otherwise; nothing else
changes. With the encodings. -/
def Obligations.AddAndAdc : Prop :=
  ∀ (x : Src) (s : State),
  let a := s.cpu.a.toNat
  let v := (s.readSrc x).toNat
  let ci := s.cpu.f.c.toNat;
  encode (aluI .add x) = aluBytes .add x ∧ encode (aluI .adc x) = aluBytes .adc x ∧
  exec (aluI .add x) s = .next { s with cpu := { s.cpu with
    a := BitVec.ofNat 8 (a + v)
    f := ⟨decide ((a + v) % 256 = 0), false, decide (a % 16 + v % 16 > 15), decide (a + v > 255)⟩
    cost := aluCost x } } ∧
  exec (aluI .adc x) s = .next { s with cpu := { s.cpu with
    a := BitVec.ofNat 8 (a + v + ci)
    f := ⟨decide ((a + v + ci) % 256 = 0), false, decide (a % 16 + v % 16 + ci > 15), decide (a + v + ci > 255)⟩
    cost := aluCost x } }

/-- For every source operand: SUB puts A - s, SBC A - s - C, mod 256, into A, and CP leaves A; Z is set iff the difference
is 0 mod 256, N is set, H is the borrow from bit 4 and C the borrow out of bit 7; the cost is 4 for a register and 8
otherwise; nothing else changes. With the encodings. -/
def Obligations.SubSbcAndCp : Prop :=
  ∀ (x : Src) (s : State),
  let a : Int := s.cpu.a.toNat
  let v : Int := (s.readSrc x).toNat
  let ci : Int := s.cpu.f.c.toNat;
  encode (aluI .sub x) = aluBytes .sub x ∧ encode (aluI .sbc x) = aluBytes .sbc x ∧
  encode (aluI .cp x) = aluBytes .cp x ∧
  exec (aluI .sub x) s = .next { s with cpu := { s.cpu with
    a := BitVec.ofInt 8 (a - v)
    f := ⟨decide ((a - v) % 256 = 0), true, decide (a % 16 - v % 16 < 0), decide (a - v < 0)⟩
    cost := aluCost x } } ∧
  exec (aluI .sbc x) s = .next { s with cpu := { s.cpu with
    a := BitVec.ofInt 8 (a - v - ci)
    f := ⟨decide ((a - v - ci) % 256 = 0), true, decide (a % 16 - v % 16 - ci < 0), decide (a - v - ci < 0)⟩
    cost := aluCost x } } ∧
  exec (aluI .cp x) s = .next { s with cpu := { s.cpu with
    f := ⟨decide ((a - v) % 256 = 0), true, decide (a % 16 - v % 16 < 0), decide (a - v < 0)⟩
    cost := aluCost x } }

/-- For every source operand: A becomes A & s, A ^ s or A | s; Z is set iff the result is 0, N and C are cleared, and H is
cleared but for AND, whose H is the parameter AndSetsH; the cost is 4 for a register and 8 otherwise; nothing else
changes. With the encodings. -/
def Obligations.LogicInstructions : Prop :=
  ∀ (x : Src) (s : State),
  let a := s.cpu.a
  let v := s.readSrc x;
  encode (aluI .and x) = aluBytes .and x ∧ encode (aluI .xor x) = aluBytes .xor x ∧
  encode (aluI .or x) = aluBytes .or x ∧
  exec (aluI .and x) s = .next { s with cpu := { s.cpu with
    a := a &&& v, f := ⟨decide (a &&& v = 0), false, s.config.andSetsH, false⟩, cost := aluCost x } } ∧
  exec (aluI .xor x) s = .next { s with cpu := { s.cpu with
    a := a ^^^ v, f := ⟨decide (a ^^^ v = 0), false, false, false⟩, cost := aluCost x } } ∧
  exec (aluI .or x) s = .next { s with cpu := { s.cpu with
    a := a ||| v, f := ⟨decide (a ||| v = 0), false, false, false⟩, cost := aluCost x } }

/-- The operand v becomes v + 1 or v - 1 mod 256; Z is set iff the result is 0; N is cleared by INC and set by DEC; H is
set iff the low nibble of v is 15 for INC, 0 for DEC; C is unchanged. Register form: cost 4, only that register and
the flags change. (HL) form: cost 12, one byte is written back through the bus at HL and no register changes. With the
encodings. -/
def Obligations.IncrementAndDecrement : Prop :=
  ∀ s : State,
  let up (v : Byte) : Byte × Flags :=
    (BitVec.ofNat 8 (v.toNat + 1), ⟨decide (v.toNat = 255), false, decide (v.toNat % 16 = 15), s.cpu.f.c⟩)
  let down (v : Byte) : Byte × Flags :=
    (BitVec.ofNat 8 (v.toNat + 255), ⟨decide (v.toNat = 1), true, decide (v.toNat % 16 = 0), s.cpu.f.c⟩);
  (∀ x : Loc, encode (incI x) = [BitVec.ofNat 8 (0x04 + 8 * x.code)] ∧
    encode (decI x) = [BitVec.ofNat 8 (0x05 + 8 * x.code)]) ∧
  (∀ r : R8, exec (incI (.reg r)) s = .next { s with cpu :=
    { s.cpu.setReg r (up (s.cpu.reg r)).1 with f := (up (s.cpu.reg r)).2, cost := 4 } }) ∧
  (∀ r : R8, exec (decI (.reg r)) s = .next { s with cpu :=
    { s.cpu.setReg r (down (s.cpu.reg r)).1 with f := (down (s.cpu.reg r)).2, cost := 4 } }) ∧
  (let v := s.read s.cpu.hl;
    exec (incI .atHL) s = .next { s with
      bus := s.bus.write s.config.echoRam s.cpu.hl (up v).1, cpu := { s.cpu with f := (up v).2, cost := 12 } } ∧
    exec (decI .atHL) s = .next { s with
      bus := s.bus.write s.config.echoRam s.cpu.hl (down v).1, cpu := { s.cpu with f := (down v).2, cost := 12 } })

/-- DAA computes the adjustment 0x60 and 0x06 from the flags and, when N is clear, from the unadjusted A, adds it when N
is clear and subtracts it when N is set, mod 256; Z from the result, H cleared, C set iff 0x60 was applied, N kept.
CPL complements A and sets N and H. SCF and CCF set and flip C and clear N and H. Each costs 4 and changes nothing
else. With the encodings. -/
def Obligations.DecimalAdjustAndFlagInstructions : Prop :=
  ∀ s : State,
  let a := s.cpu.a.toNat
  let f := s.cpu.f
  let adj := daaAdjust a f
  let r := if f.n = true then (a + 256 - adj) % 256 else (a + adj) % 256;
  encode .daa = [0x27] ∧ encode .cpl = [0x2F] ∧ encode .scf = [0x37] ∧ encode .ccf = [0x3F] ∧
  exec .daa s = .next { s with cpu := { s.cpu with
    a := BitVec.ofNat 8 r, f := ⟨decide (r = 0), f.n, false, decide (adj ≥ 0x60)⟩, cost := 4 } } ∧
  exec .cpl s = .next { s with cpu := { s.cpu with
    a := BitVec.ofNat 8 (255 - a), f := ⟨f.z, true, true, f.c⟩, cost := 4 } } ∧
  exec .scf s = .next { s with cpu := { s.cpu with f := ⟨f.z, false, false, true⟩, cost := 4 } } ∧
  exec .ccf s = .next { s with cpu := { s.cpu with f := ⟨f.z, false, false, !f.c⟩, cost := 4 } }

/-- ADD HL,rr puts HL + rr mod 2^16 into HL, with H the carry out of bit 11, C the carry out of bit 15, N cleared and Z
kept. INC rr and DEC rr move the pair by one mod 2^16 and change no flag. Each costs 8 and changes nothing else. With
the encodings. -/
def Obligations.WordArithmetic : Prop :=
  ∀ (p : Rp) (s : State),
  let x := s.cpu.hl.toNat
  let y := (s.cpu.pair p).toNat;
  encode (addHlI p) = [BitVec.ofNat 8 (0x09 + 16 * p.code)] ∧
  encode (incPairI p) = [BitVec.ofNat 8 (0x03 + 16 * p.code)] ∧
  encode (decPairI p) = [BitVec.ofNat 8 (0x0B + 16 * p.code)] ∧
  exec (addHlI p) s = .next { s with cpu := { s.cpu.setPair .hl (BitVec.ofNat 16 (x + y)) with
    f := ⟨s.cpu.f.z, false, decide (x % 4096 + y % 4096 > 4095), decide (x + y > 65535)⟩, cost := 8 } } ∧
  exec (incPairI p) s = .next { s with cpu := { s.cpu.setPair p (BitVec.ofNat 16 (y + 1)) with cost := 8 } } ∧
  exec (decPairI p) s = .next { s with cpu := { s.cpu.setPair p (BitVec.ofNat 16 (y + 65535)) with cost := 8 } }

/-- The result and the carry out of every rotate and shift, in numbers. The accumulator forms (cost 4) clear Z; the
extended forms set Z iff the result is 0; all clear N and H. The register forms (cost 8) change that register and the
flags only; the (HL) forms (cost 16) write one byte back through the bus at HL and change no register. With the
encodings. -/
def Obligations.RotatesAndShifts : Prop :=
  (∀ (s : State) (op : RotOp) (i : Instr) (b : Byte),
    (op, i, b) ∈ [(RotOp.rlc, Instr.rlca, 0x07), (.rrc, .rrca, 0x0F), (.rl, .rla, 0x17), (.rr, .rra, 0x1F)] →
    let w := rotated op s.cpu.a.toNat s.cpu.f.c.toNat;
    encode i = [b] ∧ exec i s = .next { s with cpu := { s.cpu with
      a := BitVec.ofNat 8 w.1, f := ⟨false, false, false, decide (w.2 = 1)⟩, cost := 4 } }) ∧
  (∀ (op : RotOp) (x : Loc), encode (rotI op x) = [0xCB, BitVec.ofNat 8 (8 * op.code + x.code)]) ∧
  (∀ (op : RotOp) (r : R8) (s : State), let w := rotated op (s.cpu.reg r).toNat s.cpu.f.c.toNat;
    exec (rotI op (.reg r)) s = .next { s with cpu := { s.cpu.setReg r (BitVec.ofNat 8 w.1) with
      f := ⟨decide (w.1 = 0), false, false, decide (w.2 = 1)⟩, cost := 8 } }) ∧
  (∀ (op : RotOp) (s : State), let w := rotated op (s.read s.cpu.hl).toNat s.cpu.f.c.toNat;
    exec (rotI op .atHL) s = .next { s with
      bus := s.bus.write s.config.echoRam s.cpu.hl (BitVec.ofNat 8 w.1)
      cpu := { s.cpu with f := ⟨decide (w.1 = 0), false, false, decide (w.2 = 1)⟩, cost := 16 } })

/-- BIT b sets Z to the complement of bit b, clears N, sets H and keeps C; it writes nothing back (cost 8, 12 for (HL)).
RES b and SET b clear and set bit b of the operand and change no flag; the register forms cost 8 and change only that
register; the (HL) forms cost 16 and write the byte back through the bus at HL, also where it does not change. With
the encodings. -/
def Obligations.BitInstructions : Prop :=
  (∀ (b : BitIdx) (x : Loc),
    encode (bitI b x) = [0xCB, BitVec.ofNat 8 (0x40 + 8 * b.toNat + x.code)] ∧
    encode (resI b x) = [0xCB, BitVec.ofNat 8 (0x80 + 8 * b.toNat + x.code)] ∧
    encode (setI b x) = [0xCB, BitVec.ofNat 8 (0xC0 + 8 * b.toNat + x.code)]) ∧
  (∀ (b : BitIdx) (x : Loc) (s : State), exec (bitI b x) s = .next { s with cpu := { s.cpu with
    f := ⟨!bitOf (s.readLoc x) b.toNat, false, true, s.cpu.f.c⟩, cost := if x = .atHL then 12 else 8 } }) ∧
  (∀ (b : BitIdx) (r : R8) (s : State), let m : Byte := 1 <<< b.toNat;
    exec (resI b (.reg r)) s = .next { s with cpu := { s.cpu.setReg r (s.cpu.reg r &&& ~~~m) with cost := 8 } } ∧
    exec (setI b (.reg r)) s = .next { s with cpu := { s.cpu.setReg r (s.cpu.reg r ||| m) with cost := 8 } }) ∧
  (∀ (b : BitIdx) (s : State), let m : Byte := 1 <<< b.toNat;
    exec (resI b .atHL) s = .next { s with cpu := { s.cpu with cost := 16 }
                                           bus := s.bus.write s.config.echoRam s.cpu.hl (s.read s.cpu.hl &&& ~~~m) } ∧
    exec (setI b .atHL) s = .next { s with cpu := { s.cpu with cost := 16 }
                                           bus := s.bus.write s.config.echoRam s.cpu.hl (s.read s.cpu.hl ||| m) })

/-- The conditions NZ, Z, NC, C test the flags Z and C. JP a16 costs 16, JP HL 4, JR e8 12; JP cc costs 16 taken and 12
not taken, JR cc 12 and 8. A taken jump changes only PC: to a16, to HL, or to PC + e8 with e8 signed, mod 2^16, PC
being the address of the next instruction; a jump not taken changes nothing. With the encodings. -/
def Obligations.JumpInstructions : Prop :=
  ∀ s : State,
  let rel (e8 : Byte) : Word := BitVec.ofInt 16 (s.cpu.pc.toNat + e8.toInt);
  (∀ f : Flags, f.holds .nz = !f.z ∧ f.holds .z = f.z ∧ f.holds .nc = !f.c ∧ f.holds .c = f.c) ∧
  (∀ a16 : Word, encode (.jp_a16 a16) = [0xC3, lo a16, hi a16] ∧
    exec (.jp_a16 a16) s = .next { s with cpu := { s.cpu with pc := a16, cost := 16 } }) ∧
  (∀ (cc : Cond) (a16 : Word), encode (jpIfI a16 cc) = [BitVec.ofNat 8 (0xC2 + 8 * cc.code), lo a16, hi a16] ∧
    exec (jpIfI a16 cc) s = .next { s with cpu :=
      (if s.cpu.f.holds cc = true then { s.cpu with pc := a16, cost := 16 } else { s.cpu with cost := 12 }) }) ∧
  (encode .jp_hl = [0xE9] ∧ exec .jp_hl s = .next { s with cpu := { s.cpu with pc := s.cpu.hl, cost := 4 } }) ∧
  (∀ e8 : Byte, encode (.jr_e8 e8) = [0x18, e8] ∧
    exec (.jr_e8 e8) s = .next { s with cpu := { s.cpu with pc := rel e8, cost := 12 } }) ∧
  (∀ (cc : Cond) (e8 : Byte), encode (jrIfI e8 cc) = [BitVec.ofNat 8 (0x20 + 8 * cc.code), e8] ∧
    exec (jrIfI e8 cc) s = .next { s with cpu :=
      (if s.cpu.f.holds cc = true then { s.cpu with pc := rel e8, cost := 12 } else { s.cpu with cost := 8 }) })

/-- A taken CALL (24) and RST (16) write the address of the next instruction, high byte at SP - 1 and then low byte at SP
- 2, leave SP two lower and set PC to the target, 8t for RST. RET (16), RET cc taken (20) and RETI (16) set PC from
the bytes at SP and SP + 1 and leave SP two higher; RETI also sets IME. CALL cc not taken costs 12, RET cc not taken
8, and they change nothing. No flag changes. With the encodings. -/
def Obligations.CallsAndReturns : Prop :=
  ∀ s : State,
  let called (target : Word) (n : Nat) : State := { s with
    cpu := { s.cpu with sp := s.cpu.sp - 2, pc := target, cost := n }
    bus := (s.bus.write s.config.echoRam (s.cpu.sp - 1) (hi s.cpu.pc)).write s.config.echoRam
      (s.cpu.sp - 2) (lo s.cpu.pc) }
  let returned (n : Nat) : Cpu :=
    { s.cpu with sp := s.cpu.sp + 2, pc := w16 (s.read (s.cpu.sp + 1)) (s.read s.cpu.sp), cost := n };
  (∀ a16 : Word, encode (.call_a16 a16) = [0xCD, lo a16, hi a16] ∧
    exec (.call_a16 a16) s = .next (called a16 24)) ∧
  (∀ (cc : Cond) (a16 : Word), encode (callIfI a16 cc) = [BitVec.ofNat 8 (0xC4 + 8 * cc.code), lo a16, hi a16] ∧
    exec (callIfI a16 cc) s = .next (if s.cpu.f.holds cc = true then called a16 24
      else { s with cpu := { s.cpu with cost := 12 } })) ∧
  (∀ t : BitIdx, encode (rstI t) = [BitVec.ofNat 8 (0xC7 + 8 * t.toNat)] ∧
    exec (rstI t) s = .next (called (BitVec.ofNat 16 (8 * t.toNat)) 16)) ∧
  (encode .ret = [0xC9] ∧ exec .ret s = .next { s with cpu := returned 16 }) ∧
  (∀ cc : Cond, encode (retIfI cc) = [BitVec.ofNat 8 (0xC0 + 8 * cc.code)] ∧
    exec (retIfI cc) s = .next { s with cpu :=
      (if s.cpu.f.holds cc = true then returned 20 else { s.cpu with cost := 8 }) }) ∧
  (encode .reti = [0xD9] ∧ exec .reti s = .next { s with cpu := { returned 16 with ime := true } })

/-- NOP changes nothing (cost 4). STOP changes nothing (cost 4) under StopBehaviour = Nop2, whatever its second byte;
under Fatal it is the fatal outcome at the address of its first byte. HALT sets halted (4), and while halted with no
bit of IF in 4:0 every CPU step only returns 4. DI clears and EI sets IME at once (4). With the encodings. That the
fatal outcome is a next state is the model's choice (notes/assumptions/5.md), and so is the cost it leaves as it was
(6.md). -/
def Obligations.SystemInstructions : Prop :=
  ∀ s : State,
  (encode .nop = [0x00] ∧ exec .nop s = .next { s with cpu := { s.cpu with cost := 4 } }) ∧
  (∀ x : Byte, encode (.stop x) = [0x10, x] ∧
    (s.config.stopBehaviour = .nop2 → exec (.stop x) s = .next { s with cpu := { s.cpu with cost := 4 } }) ∧
    (s.config.stopBehaviour = .fatal → exec (.stop x) s = .next { s with cpu :=
      { s.cpu with fatal := true, fatalAddr := s.cpu.pc - 2, pc := s.cpu.pc - 2 } })) ∧
  (encode .halt = [0x76] ∧ exec .halt s = .next { s with cpu := { s.cpu with halted := true, cost := 4 } }) ∧
  (s.cpu.fatal = false → s.cpu.halted = true → s.bus.ifr &&& 0x1F = 0 →
    cpuStep s = .next { s with cpu := { s.cpu with cost := 4 } }) ∧
  (encode .di = [0xF3] ∧ exec .di s = .next { s with cpu := { s.cpu with ime := false, cost := 4 } }) ∧
  (encode .ei = [0xFB] ∧ exec .ei s = .next { s with cpu := { s.cpu with ime := true, cost := 4 } })

/-- The bytes 0xCB cbop decode, in one piece, to the instruction of the extended table whose encoding they are. Running
the prefix itself, with PC past it, fetches cbop at PC and gives what that instruction gives with PC past cbop, or,
where the extended opcode is not implemented, the fatal outcome at the address of the prefix. The prefix as a
constructor of its own is the model's (notes/assumptions/8.md: the decoder reads it from the lone byte 0xCB only), and
so are the next state of the fatal outcome (5.md) and the cost it leaves as it was (6.md). Whether the prefix byte
itself is implemented is asked by the fetch (23.md). -/
def Obligations.ExtendedPrefix : Prop :=
  (∀ cbop b2 : Byte, decode3 0xCB cbop b2 = extendedEntry cbop ∧ encode (extendedEntry cbop) = [0xCB, cbop]) ∧
  (∀ s : State, s.implements .extended (s.read s.cpu.pc) = true →
    exec .prefixCB s = exec (extendedEntry (s.read s.cpu.pc)) { s with cpu := { s.cpu with pc := s.cpu.pc + 1 } }) ∧
  (∀ s : State, s.implements .extended (s.read s.cpu.pc) = false →
    exec .prefixCB s = .next { s with cpu :=
      { s.cpu with fatal := true, fatalAddr := s.cpu.pc - 1, pc := s.cpu.pc - 1 } })

/-- For all bytes a and b, add8 then sub8 of the same b gives a back, with the same C and the same H as the addition; the
sums wrap mod 256, and a flag set has four flags and no overflow flag. -/
def Obligations.AddThenSubRoundTrip : Prop :=
  ∀ a b : Byte, let x := add8 a b false
    let y := sub8 x.1 b false;
    y.1 = a ∧ y.2.c = x.2.c ∧ y.2.h = x.2.h ∧ x.1.toNat = (a.toNat + b.toNat) % 256 ∧
    ∀ f : Flags, f = ⟨f.z, f.n, f.h, f.c⟩

/-- For all numbers m and n below 100: adding their packed decimal bytes and adjusting gives the packed decimal of (m + n)
mod 100 with C set iff m + n is 100 or more; subtracting and adjusting gives that of (m - n) mod 100 with C set iff m
is less than n; H is clear. Written through exec: ADD A,n8 or SUB n8 and then DAA. -/
def Obligations.DecimalAdjustGivesDecimalResult : Prop :=
  ∀ (s : State) (m n : Nat), m < 100 → n < 100 → s.cpu.a = packedDecimal m →
    (∃ t u, exec (.add_a_n8 (packedDecimal n)) s = .next t ∧ exec .daa t = .next u ∧
      u.cpu.a = packedDecimal ((m + n) % 100) ∧ u.cpu.f.c = decide (100 ≤ m + n) ∧ u.cpu.f.h = false) ∧
    (∃ t u, exec (.sub_n8 (packedDecimal n)) s = .next t ∧ exec .daa t = .next u ∧
      u.cpu.a = packedDecimal ((m + 100 - n) % 100) ∧ u.cpu.f.c = decide (m < n) ∧ u.cpu.f.h = false)

/-- Let u be the state with the start-of-frame work done where it is due. If u's CPU fetches (no fatal mark, not halted,
no dispatch due), its opcode is implemented and the three bytes at PC decode to i, then the step is exec i on u with
PC past the whole of i, followed, unless the instruction was fatal, by the PPU step, the timer step and the count with
the cost the instruction left. The start-of-frame form of the step is the model's (notes/assumptions/3.md), and so is
a fatal outcome that is a next state (5.md). -/
def Obligations.StepRunsDecodedInstruction : Prop :=
  ∀ (s : State) (i : Instr) (rest : List Byte), let u := s.openFrame;
    s.cpu.fatal = false → Fetches u → u.implementsNext = true →
    decode [u.read u.cpu.pc, u.read (u.cpu.pc + 1), u.read (u.cpu.pc + 2)] = .ok (i, rest) →
    step s =
      match exec i { u with cpu := { u.cpu with pc := u.cpu.pc + BitVec.ofNat 16 (encode i).length } } with
      | .next t => if t.cpu.fatal = true then .next t else .next (t.tick t.cpu.cost)
      | .fault r => .fault r
      | .refused r => .refused r

/-- A halted CPU with a bit of IF in 4:0 set steps exactly as the same CPU not halted, enabled or not and whatever IME: it
dispatches or fetches in that very step. With no such bit, bits 7:5 notwithstanding, the step returns 4 and changes
nothing else. A CPU that is not halted and has no dispatch due fetches. -/
def Obligations.HaltWakeAndIdle : Prop :=
  ∀ s : State, s.cpu.fatal = false →
    (s.cpu.halted = true → s.bus.ifr &&& 0x1F ≠ 0 →
      cpuStep s = cpuStep { s with cpu := { s.cpu with halted := false } }) ∧
    (s.cpu.halted = true → s.bus.ifr &&& 0x1F = 0 → cpuStep s = .next { s with cpu := { s.cpu with cost := 4 } }) ∧
    (s.cpu.halted = false → ¬(s.cpu.ime = true ∧ s.pending ≠ 0) → cpuStep s = fetchExecute s)

/-- With IME set and n the lowest bit of IF & IE & 0x1F, a CPU step clears IME, wakes a halted CPU, clears bit n of IF and
only that, then writes PC to the stack through the bus, high byte at SP - 1 and then low byte at SP - 2, leaves SP two
lower, sets PC to 0x0040 + 8n and returns 20. Every other register, the flags and the devices are as before. -/
def Obligations.InterruptDispatch : Prop :=
  ∀ (s : State) (n : Nat), s.cpu.fatal = false → s.cpu.ime = true → n < 5 →
    bitOf s.bus.ifr n = true → bitOf s.bus.ie n = true →
    (∀ m < n, (bitOf s.bus.ifr m && bitOf s.bus.ie m) = false) →
    cpuStep s = .next { s with
      cpu := { s.cpu with ime := false, halted := false, sp := s.cpu.sp - 2,
                          pc := BitVec.ofNat 16 (0x0040 + 8 * n), cost := 20 }
      bus := (Bus.write s.config.echoRam { s.bus with ifr := s.bus.ifr &&& ~~~((1 : Byte) <<< n) }
        (s.cpu.sp - 1) (hi s.cpu.pc)).write s.config.echoRam (s.cpu.sp - 2) (lo s.cpu.pc) }

/-- When a CPU that fetches finds an illegal opcode, one that is not implemented, or STOP under StopBehaviour = Fatal, the
step sets the fatal mark and fatalAddr to the address of the opcode (of the prefix for an extended one), leaves PC
there and changes nothing else; neither PPU nor timer runs. Every later step is the fault of that address, and only a
rebuild gives a state without the mark. An instruction is implemented when its first byte is implemented in the
primary table and, behind 0xCB, its second in the extended table; that a prefix byte marked as not implemented is
fatal is the model's reading (notes/assumptions/23.md). The model's own are also: the fatal step is a next state and
the fault comes with the steps after it (5.md), the cost stays as it was (6.md), and the state that 'changes nothing
else' is measured against has the start-of-frame work done (3.md). -/
def Obligations.FatalDecodeOutcome : Prop :=
  (∀ s : State, let u := s.openFrame;
    s.cpu.fatal = false → Fetches u →
    u.read u.cpu.pc ∈ illegalOpcodes ∨ u.implementsNext = false ∨
      (u.read u.cpu.pc = 0x10 ∧ u.config.stopBehaviour = .fatal) →
    step s = .next { u with cpu := { u.cpu with fatal := true, fatalAddr := u.cpu.pc } }) ∧
  (∀ s : State, s.cpu.fatal = true → step s = .fault (.fatalDecode s.cpu.fatalAddr)) ∧
  (∀ (h : Supply) (s : State), powerOn h = .ok s → s.cpu.fatal = false) ∧
  (∀ s : State, let op := s.read s.cpu.pc;
    s.implementsNext = true ↔ (Table.primary, op) ∉ s.config.notImplemented ∧
      (op = 0xCB → (Table.extended, s.read (s.cpu.pc + 1)) ∉ s.config.notImplemented))

/-- A step from a state without the fatal mark does the start-of-frame work where it is due (the buttons of the head of
inputs are sampled and the count restarts; elsewhere nothing), then the CPU step; a CPU step that was fatal ends it,
and otherwise the PPU step and then the timer step run with the cost of the CPU step, on the bus as the CPU left it,
and the cost is counted. Recognising the start of a frame by the count and keeping the buttons in a list are the
model's (notes/assumptions/3.md, 4.md), and so is a fatal CPU step that is a next state (5.md). -/
def Obligations.DriverIteration : Prop :=
  ∀ s : State, s.cpu.fatal = false →
    (s.openFrame = if s.frameCycles = 0 ∨ 70224 ≤ s.frameCycles
      then { s with bus := { s.bus with joy := (s.inputs.headD {}).lines }, frameCycles := 0, inputs := s.inputs.tail }
      else s) ∧
    (∀ t, cpuStep s.openFrame = .next t → t.cpu.fatal = true → step s = .next t) ∧
    (∀ t, cpuStep s.openFrame = .next t → t.cpu.fatal = false →
      step s = .next { ((t.ppuStep t.cpu.cost).timerStep t.cpu.cost) with
        frameCycles := t.frameCycles + t.cpu.cost })

/-- From a state at the start of a frame without the fatal mark, RunFrame with the next buttons is what some number of
steps of the machine gives. RunFrame always answers a state, whose count lies between 70,224 and 70,247 unless it was
fatal, and the count it starts from makes no difference: the overshoot is dropped. The model's own are the frame start
recognised by the count (notes/assumptions/3.md), the buttons in a list (4.md) and a fatal frame that answers a state
(5.md). -/
def Obligations.RunFrameIsIteratedStep : Prop :=
  ∀ s : State, s.cpu.fatal = false →
    (s.atFrameStart = true →
      ∃ k, (Host.Core.run Sys2Proof.core k s : Result) = runFrame s.nextButtons { s with inputs := s.inputs.tail }) ∧
    (∀ b, ∃ t, runFrame b s = .next t ∧
      (t.cpu.fatal = true ∨ (70224 ≤ t.frameCycles ∧ t.frameCycles ≤ 70247))) ∧
    (∀ b n, runFrame b { s with frameCycles := n } = runFrame b s)

/-- State.Inv holds of State.reset: canonical storage, legal bank registers, the PPU accumulator below its phase, the
scanline fitting the phase and 0 while the LCD is off, the divider accumulator below 256, a frame of 144 rows of 160,
the count within a frame. -/
def Obligations.ResetMeetsInvariant : Prop :=
  State.reset.Inv

/-- From any state that meets State.Inv, reachable or not, a step that answers a next state answers one that meets it:
storage stays canonical, bank registers stay ones their family can hold, the PPU accumulator stays below its phase,
the scanline stays within 0-143 outside vertical blank and 144-153 inside it and is 0 while the LCD is off, the
divider accumulator stays below 256, the frame keeps its shape, and the count never passes the budget by a whole step. -/
def Obligations.StepKeepsInvariant : Prop :=
  ∀ s t : State, s.Inv → step s = .next t → t.Inv

/-- Every state that powerOn answers, for any cartridge image, boot ROM, save file, parameters and inputs, meets
State.Inv. -/
def Obligations.PowerOnMeetsInvariant : Prop :=
  ∀ (h : Supply) (s : State), powerOn h = .ok s → s.Inv

/-- From any state whose bank controller is legal, a step that answers a next state leaves the parameters, every byte of
the ROM image and of the boot ROM, and the family, battery flag, image size, bank counts and RAM size as they were. -/
def Obligations.ImmutableParts : Prop :=
  ∀ s t : State, s.bus.cart.Legal → step s = .next t →
    t.config = s.config ∧
    (∀ off, t.bus.mem.read (romKey off) = s.bus.mem.read (romKey off)) ∧
    (∀ i, i < 256 → t.bus.mem.read (bootKey i) = s.bus.mem.read (bootKey i)) ∧
    t.bus.cart.family = s.bus.cart.family ∧ t.bus.cart.battery = s.bus.cart.battery ∧
    t.bus.cart.romSize = s.bus.cart.romSize ∧ t.bus.cart.romBanks = s.bus.cart.romBanks ∧
    t.bus.cart.ramSize = s.bus.cart.ramSize ∧ t.bus.cart.ramBanks = s.bus.cart.ramBanks

/-- The latch is set at power-on exactly when a boot ROM is supplied. While it is 1, reads below 0x0100 give the boot ROM;
from 0x0100 on, and everywhere when it is 0, reads do not depend on it. A write below 0x8000 goes to the bank
controller whatever the latch. A write of any value to 0xFF50 clears the latch and stores the byte, which reads back,
and changes nothing else. No step sets the latch. -/
def Obligations.BootLatchAndOverlay : Prop :=
  (∀ (h : Supply) (s : State), powerOn h = .ok s → (s.bus.bootLatch = true ↔ h.bootRom ≠ .absent)) ∧
  (∀ (echo : Bool) (b : Bus) (a : Word), b.bootLatch = true → a.toNat < 0x100 →
    b.read echo a = b.mem.read (bootKey a.toNat)) ∧
  (∀ (echo : Bool) (b : Bus) (a : Word), 0x100 ≤ a.toNat → b.read echo a = Bus.read echo { b with bootLatch := false } a) ∧
  (∀ (echo : Bool) (b : Bus) (a : Word) (v : Byte), a.toNat < 0x8000 →
    b.write echo a v = { b with cart := b.cart.control a.toNat v }) ∧
  (∀ (echo : Bool) (b : Bus) (v : Byte),
    b.write echo 0xFF50 v = { b with bootLatch := false, mem := b.mem.write 0xFF50 v } ∧
    (b.write echo 0xFF50 v).read echo 0xFF50 = v) ∧
  (∀ s t : State, step s = .next t → t.bus.bootLatch = true → s.bus.bootLatch = true)

/-- For every instruction and every state, the next state has the same parameters, PPU, timer accumulator, driver count,
inputs and joypad byte; IME becomes 1 by EI and RETI, 0 by DI, and is otherwise unchanged; halted becomes 1 by HALT
and is otherwise unchanged. -/
def Obligations.InstructionFrame : Prop :=
  ∀ (i : Instr) (s t : State), exec i s = .next t →
    t.config = s.config ∧ t.ppu = s.ppu ∧ t.divAcc = s.divAcc ∧ t.frameCycles = s.frameCycles ∧
    t.inputs = s.inputs ∧ t.bus.joy = s.bus.joy ∧
    (t.cpu.ime = match i with
      | .ei => true
      | .reti => true
      | .di => false
      | _ => s.cpu.ime) ∧
    (t.cpu.halted = match i with
      | .halt => true
      | _ => s.cpu.halted)

/-- For every instruction and every state without the fatal mark, exec answers a next state: either without the mark and
with a cost that is a multiple of 4 from 4 to 24, or with the mark, and then it is an illegal opcode, STOP under
StopBehaviour = Fatal, or the prefix before an extended opcode that is not implemented. That a fatal outcome is a next
state too, with the mark set, is the model's choice (notes/assumptions/5.md: the fault comes with the steps after it),
as is the lone prefix as an instruction (8.md). -/
def Obligations.EveryInstructionCompletes : Prop :=
  ∀ (i : Instr) (s : State), s.cpu.fatal = false → ∃ t, exec i s = .next t ∧
    ((t.cpu.fatal = false ∧ 4 ≤ t.cpu.cost ∧ t.cpu.cost ≤ 24 ∧ t.cpu.cost % 4 = 0) ∨
      (t.cpu.fatal = true ∧ ((∃ op, i = .illegal op) ∨ ((∃ x, i = .stop x) ∧ s.config.stopBehaviour = .fatal) ∨
        (i = .prefixCB ∧ s.implements .extended (s.read s.cpu.pc) = false))))

/-- storesOf computes, from the state before, the addresses and bytes an instruction stores. For every instruction and
every state with a legal bank controller, an address that none of these stores touches reads after the instruction as
before it: touches is the stored address itself and, for a bank-control write, LCDC, DMA and BOOT, the addresses their
effect reaches. So a form that stores nothing leaves every address as it was. -/
def Obligations.StoresAreTheOnlyMemoryChange : Prop :=
  ∀ (i : Instr) (s t : State) (a : Word), s.bus.cart.Legal → exec i s = .next t →
    (∀ x ∈ storesOf i s, touches s.config.echoRam x.1 a = false) → t.read a = s.read a

/-- After the PPU step and the timer step of an iteration, every bit of IF that was set is still set, and bits 2 to 7 are
as they were; IE is as it was. Sampling the buttons and starting a frame leave IF alone. -/
def Obligations.HardwareInterruptRequests : Prop :=
  ∀ (s : State) (c i : Nat),
    (bitOf s.bus.ifr i = true → bitOf (s.tick c).bus.ifr i = true) ∧
    (2 ≤ i → bitOf (s.tick c).bus.ifr i = bitOf s.bus.ifr i) ∧
    (s.tick c).bus.ie = s.bus.ie ∧ s.openFrame.bus.ifr = s.bus.ifr

/-- Two storages in canonical form that read the same at every key are equal. A write keeps the canonical form, its key
then reads the byte written, and every other key reads as before. The canonical form is the model's
(notes/assumptions/10.md). -/
def Obligations.CanonicalMemory : Prop :=
  (∀ m m' : Memory, m.wf → m'.wf → (∀ k, m.read k = m'.read k) → m = m') ∧
  (∀ (m : Memory) (k : Nat) (v : Byte), m.wf → (m.write k v).wf ∧
    ∀ k', (m.write k v).read k' = if k' = k then v else m.read k')

/-- For every write of a byte through the bus, in every state of a legal bank controller and under either setting of
EchoRam, every address that the write does not touch reads as before: it touches the address itself (and its echo),
the two bank windows for a control write, LCDC and LY, DMA and OAM, BOOT and the range of the boot ROM. -/
def Obligations.BusWriteFrame : Prop :=
  ∀ (echo : Bool) (b : Bus) (a a' : Word) (v : Byte), b.cart.Legal → touches echo a a' = false →
    (b.write echo a v).read echo a' = b.read echo a'

/-- For every address of work RAM, video RAM, OAM or high RAM, and every address 0xFF00-0xFF7F that is no named register,
a write stores the byte, a read then gives it, and the registers of the bus, the boot latch, the joypad byte and the
bank controller are as before; every other such address reads as before. -/
def Obligations.PlainStorage : Prop :=
  ∀ (echo : Bool) (b : Bus) (a : Word) (v : Byte),
    (0x8000 ≤ a.toNat ∧ a.toNat < 0xA000) ∨ (0xC000 ≤ a.toNat ∧ a.toNat < 0xE000) ∨
      (0xFE00 ≤ a.toNat ∧ a.toNat < 0xFEA0) ∨ (0xFF80 ≤ a.toNat ∧ a.toNat < 0xFFFF) ∨
      (0xFF00 ≤ a.toNat ∧ a.toNat < 0xFF80 ∧ a.toNat ∉ [0xFF00, 0xFF04, 0xFF0F, 0xFF40, 0xFF41, 0xFF42, 0xFF43,
        0xFF44, 0xFF45, 0xFF46, 0xFF47, 0xFF48, 0xFF49, 0xFF4A, 0xFF4B, 0xFF50]) →
    b.write echo a v = { b with mem := b.mem.write a.toNat v } ∧ (b.write echo a v).read echo a = v ∧
      b.read echo a = b.mem.read a.toNat ∧
      ∀ k, k ≠ a.toNat → (b.write echo a v).mem.read k = b.mem.read k

/-- IF, IE, LYC, SCY, SCX, BGP, OBP0, OBP1, WY and WX read as stored and take the byte written, with no other effect. DIV
reads as stored; any write zeroes it and leaves divAcc. LCDC takes the byte, and LY becomes 0 where its bit 7 is 0. A
STAT read has bit 7 set; a write changes bits 6 to 3 only. LY reads as stored and ignores writes. -/
def Obligations.NamedRegisterAccess : Prop :=
  ∀ (s : State) (v : Byte), let b := s.bus;
  s.read 0xFF04 = b.div ∧ s.write 0xFF04 v = { s with bus := { b with div := 0 } } ∧
  s.read 0xFF0F = b.ifr ∧ s.write 0xFF0F v = { s with bus := { b with ifr := v } } ∧
  s.read 0xFFFF = b.ie ∧ s.write 0xFFFF v = { s with bus := { b with ie := v } } ∧
  s.read 0xFF40 = b.lcdc ∧
  s.write 0xFF40 v = { s with bus := { b with lcdc := v, ly := if v.toNat < 128 then 0 else b.ly } } ∧
  (∀ i, bitOf (s.read 0xFF41) i = (decide (i = 7) || b.stat.getLsbD i)) ∧
  (let t := s.write 0xFF41 v;
    t = { s with bus := { b with stat := t.bus.stat } } ∧
    ∀ i, t.bus.stat.getLsbD i = if 3 ≤ i ∧ i ≤ 6 then bitOf v i else b.stat.getLsbD i) ∧
  s.read 0xFF44 = b.ly ∧ s.write 0xFF44 v = s ∧
  s.read 0xFF45 = b.lyc ∧ s.write 0xFF45 v = { s with bus := { b with lyc := v } } ∧
  s.read 0xFF42 = b.scy ∧ s.write 0xFF42 v = { s with bus := { b with scy := v } } ∧
  s.read 0xFF43 = b.scx ∧ s.write 0xFF43 v = { s with bus := { b with scx := v } } ∧
  s.read 0xFF47 = b.bgp ∧ s.write 0xFF47 v = { s with bus := { b with bgp := v } } ∧
  s.read 0xFF48 = b.obp0 ∧ s.write 0xFF48 v = { s with bus := { b with obp0 := v } } ∧
  s.read 0xFF49 = b.obp1 ∧ s.write 0xFF49 v = { s with bus := { b with obp1 := v } } ∧
  s.read 0xFF4A = b.wy ∧ s.write 0xFF4A v = { s with bus := { b with wy := v } } ∧
  s.read 0xFF4B = b.wx ∧ s.write 0xFF4B v = { s with bus := { b with wx := v } }

/-- With EchoRam = false, an address in 0xE000-0xFDFF or 0xFEA0-0xFEFF reads 0xFF, and a write to it changes nothing and
warns the host. With EchoRam = true that holds of 0xFEA0-0xFEFF only, and an address in 0xE000-0xFDFF reads and writes
exactly as the one 0x2000 below it. -/
def Obligations.UnmappedAddressesAndEcho : Prop :=
  ∀ (echo : Bool) (b : Bus) (a : Word) (v : Byte),
    ((0xFEA0 ≤ a.toNat ∧ a.toNat < 0xFF00) ∨ (echo = false ∧ 0xE000 ≤ a.toNat ∧ a.toNat < 0xFE00) →
      b.read echo a = 0xFF ∧ b.write echo a v = b ∧ writeWarning echo a = some (.outOfRangeWrite a)) ∧
    (echo = true → 0xE000 ≤ a.toNat → a.toNat < 0xFE00 →
      b.read echo a = b.read echo (a - 0x2000) ∧ b.write echo a v = b.write echo (a - 0x2000) v)

/-- A write of v to 0xFF46 stores v as the DMA register, and OAM byte i then is what a read of v*256 + i gave, for each i
below 160, whatever region that is; every other byte of storage and every other register of the bus is as before. A
read of 0xFF46 gives v. -/
def Obligations.OamDma : Prop :=
  ∀ (echo : Bool) (b : Bus) (v : Byte),
    let b1 : Bus := { b with dma := v }
    let r := b.write echo 0xFF46 v;
    (∀ i, i < 160 → r.read echo (0xFE00 + BitVec.ofNat 16 i) = b1.read echo (BitVec.ofNat 16 (256 * v.toNat + i))) ∧
    (∀ k, ¬(0xFE00 ≤ k ∧ k < 0xFEA0) → r.mem.read k = b.mem.read k) ∧
    { r with mem := b.mem } = b1 ∧ r.read echo 0xFF46 = v

/-- 0x0000-0x1FFF: MBC1, MBC3 and MBC5 enable cartridge RAM iff the low nibble is 0xA. 0x2000-0x3FFF: MBC1 takes 5 bits
and MBC3 7 bits as the ROM bank, 0 becoming 1; MBC5 takes the low eight bits below 0x3000 and bit 8 from 0x3000, with
no coercion. 0x4000-0x5FFF: the RAM bank is 2 bits on MBC1 and MBC3 and 4 bits on MBC5. 0x6000-0x7FFF, and every write
for the family None: nothing. Nothing else of the bus changes. -/
def Obligations.BankControlWrites : Prop :=
  ∀ (echo : Bool) (b : Bus) (a : Word) (v : Byte), a.toNat < 0x8000 →
    let c := b.cart
    let n := v.toNat;
    b.write echo a v = { b with cart :=
      if c.family = .romOnly ∨ 0x6000 ≤ a.toNat then c
      else if a.toNat < 0x2000 then { c with ramEnabled := decide (n % 16 = 10) }
      else if a.toNat < 0x4000 then { c with romBank := BitVec.ofNat 9 (
        match c.family with
        | .mbc1 => if n % 32 = 0 then 1 else n % 32
        | .mbc3 => if n % 128 = 0 then 1 else n % 128
        | _ => if a.toNat < 0x3000 then c.romBank.toNat / 256 * 256 + n else c.romBank.toNat % 256 + 256 * (n % 2)) }
      else { c with ramBank := BitVec.ofNat 4 (if c.family = .mbc5 then n % 16 else n % 4) } }

/-- 0x0000-0x3FFF (not under the boot ROM) shows the image at the address; 0x4000-0x7FFF the image at bank * 0x4000 plus
the offset, the bank being 1 for the family None and else the ROM bank modulo the count; past the image both read
0xFF. 0xA000-0xBFFF: closed for the family None, disabled RAM or no RAM bank (reads 0xFF, writes dropped); open, it is
byte (RAM bank modulo the count) * 0x2000 plus the offset of the RAM, which reads and writes, or past the RAM 0xFF and
dropped. The family None ignores every write here. The reduced bank is always below the count. -/
def Obligations.BankWindows : Prop :=
  ∀ (echo : Bool) (b : Bus) (a : Word) (v : Byte),
    let c := b.cart
    let n := a.toNat
    let rom (off : Nat) : Byte := if off < c.romSize then b.mem.read (romKey off) else 0xFF
    let off := (c.ramBank.toNat % c.ramBanks) * 0x2000 + (n - 0xA000);
    (n < 0x4000 → ¬(b.bootLatch = true ∧ n < 0x100) → b.read echo a = rom n) ∧
    (0x4000 ≤ n → n < 0x8000 →
      b.read echo a = rom ((if c.family = .romOnly then 1 else c.romBank.toNat % c.romBanks) * 0x4000 + (n - 0x4000))) ∧
    (c.family = .romOnly → n < 0x8000 ∨ (0xA000 ≤ n ∧ n < 0xC000) → b.write echo a v = b) ∧
    (0xA000 ≤ n → n < 0xC000 → c.family = .romOnly ∨ c.ramEnabled = false ∨ c.ramBanks = 0 ∨ c.ramSize ≤ off →
      b.read echo a = 0xFF ∧ b.write echo a v = b) ∧
    (0xA000 ≤ n → n < 0xC000 → c.family ≠ .romOnly → c.ramEnabled = true → c.ramBanks ≠ 0 → off < c.ramSize →
      b.read echo a = b.mem.read (ramKey off) ∧ b.write echo a v = { b with mem := b.mem.write (ramKey off) v } ∧
      (b.write echo a v).read echo a = v) ∧
    (c.Legal → c.romBank.toNat % c.romBanks < c.romBanks ∧ (c.ramBanks ≠ 0 → c.ramBank.toNat % c.ramBanks < c.ramBanks))

/-- While the LCD is on, a PPU step of c cycles and then one of d cycles leave exactly the state that one step of c + d
cycles leaves, for every c and d: the excess over a threshold is carried into the next phase, and how the cycles are
cut into steps makes no difference. -/
def Obligations.PpuStepAdditive : Prop :=
  ∀ (s : State) (c d : Nat), bitOf s.bus.lcdc 7 = true → (s.ppuStep c).ppuStep d = s.ppuStep (c + d)

/-- While the LCD is on and from any state that fits its phase, after 456 cycles the PPU is as far into its line as before
and LY is one higher, 0 after 153; after 70,224 cycles mode, accumulator and LY are as before. The state after still
fits. -/
def Obligations.PpuLineAndFramePeriod : Prop :=
  ∀ s : State, PpuRuns s →
    (let t := s.ppuStep 456;
      PpuRuns t ∧ lineDots t.ppu = lineDots s.ppu ∧ t.bus.ly.toNat = (s.bus.ly.toNat + 1) % 154) ∧
    (let t := s.ppuStep 70224;
      t.ppu.mode = s.ppu.mode ∧ t.ppu.dots = s.ppu.dots ∧ t.bus.ly = s.bus.ly)

/-- While the LCD is on, from any state that fits its phase and for a step of at most 24 cycles. Below the phase's length
only the accumulator grows. At its end the length is taken off and: OAM search enters transfer; transfer enters HBlank
and renders line LY; HBlank adds one to LY, compares it and enters OAM search, or VBlank at 144 with the guarded
request of bit 0 and frameReady; a VBlank line adds one to LY, from 153 to 0 with OAM search, and compares. STAT holds
the mode and the coincidence; IF bit 1 is requested by HBlank, VBlank and OAM entry and by a match, each where its
STAT bit is set. Nothing else changes. -/
def Obligations.PpuPhaseTransitions : Prop :=
  ∀ (s : State) (c : Nat), PpuRuns s → c ≤ 24 →
    let t := s.ppuStep c
    let b := s.bus
    let p := s.ppu
    let n := p.dots + c
    let ly1 : Byte := BitVec.ofNat 8 (b.ly.toNat + 1)
    let hit := decide (ly1 = b.lyc)
    let e (i : Nat) : Bool := b.stat.getLsbD i;
    (n < p.mode.length → t = { s with ppu := { p with dots := n } }) ∧
    (p.mode = .oamSearch → 80 ≤ n → t = { s with
      bus := { b with stat := statWith b.stat (e 2) 3 }, ppu := { p with mode := .transfer, dots := n - 80 } }) ∧
    (p.mode = .transfer → 172 ≤ n → t = { s with
      bus := { b with stat := statWith b.stat (e 2) 0, ifr := statIf b.ifr (e 3) }
      ppu := { p with
        mode := .hblank, dots := n - 172, frame := p.frame.set b.ly.toNat (b.renderRow b.ly.toNat p.windowLine)
        windowLine := if b.windowRuns b.ly.toNat = true then b.windowRow b.ly.toNat p.windowLine + 1 else p.windowLine } }) ∧
    (p.mode = .hblank → 204 ≤ n → b.ly.toNat ≠ 143 → t = { s with
      bus := { b with ly := ly1, stat := statWith b.stat hit 2, ifr := statIf b.ifr ((hit && e 6) || e 5) }
      ppu := { p with mode := .oamSearch, dots := n - 204, vblankTriggered := false } }) ∧
    (p.mode = .hblank → 204 ≤ n → b.ly.toNat = 143 → t = { s with
      bus := { b with
        ly := 144, stat := statWith b.stat hit 1
        ifr := statIf (if p.vblankTriggered = true then b.ifr else b.ifr ||| 0x01) ((hit && e 6) || e 4) }
      ppu := { p with
        mode := .vblank, dots := n - 204, vblankTriggered := true, frameReady := p.frameReady || !p.vblankTriggered } }) ∧
    (p.mode = .vblank → 456 ≤ n → b.ly.toNat < 153 → t = { s with
      bus := { b with ly := ly1, stat := statWith b.stat hit (b.stat.extractLsb' 0 2), ifr := statIf b.ifr (hit && e 6) }
      ppu := { p with dots := n - 456 } }) ∧
    (p.mode = .vblank → 456 ≤ n → b.ly.toNat = 153 → let hit0 := decide (0 = b.lyc);
      t = { s with
        bus := { b with ly := 0, stat := statWith b.stat hit0 2, ifr := statIf b.ifr ((hit0 && e 6) || e 5) }
        ppu := { p with mode := .oamSearch, dots := n - 456, vblankTriggered := false } })

/-- With LCDC bit 7 clear a PPU step sets the mode to HBlank, in the PPU and in STAT, and the accumulator to 0 and changes
nothing else. From that state at LY 0 with the LCD on again, the PPU only counts for the first 203 cycles, and at 204
LY is 1, OAM search has begun and the frame buffer is unchanged. -/
def Obligations.LcdOffFreezesThePpu : Prop :=
  (∀ (s : State) (c : Nat), bitOf s.bus.lcdc 7 = false →
    s.ppuStep c = { s with
      bus := { s.bus with stat := statWith s.bus.stat (s.bus.stat.getLsbD 2) 0 }
      ppu := { s.ppu with mode := .hblank, dots := 0 } }) ∧
  (∀ (s : State) (c : Nat), bitOf s.bus.lcdc 7 = true → s.ppu.mode = .hblank → s.ppu.dots = 0 → s.bus.ly = 0 →
    (c < 204 → s.ppuStep c = { s with ppu := { s.ppu with dots := c } }) ∧
    (let t := s.ppuStep 204;
      t.bus.ly = 1 ∧ t.ppu.mode = .oamSearch ∧ t.ppu.dots = 0 ∧ t.ppu.frame = s.ppu.frame))

/-- From an accumulator below 256, a timer step of c cycles adds k to DIV mod 256 and leaves accumulator r below 256 where
accumulator + c = 256 k + r, and changes nothing else; two steps count as one step of the sum. -/
def Obligations.DividerTimer : Prop :=
  (∀ (s : State) (c : Nat), s.divAcc < 256 → let t := s.timerStep c;
    ∃ k, s.divAcc + c = 256 * k + t.divAcc ∧ t.divAcc < 256 ∧ t.bus.div.toNat = (s.bus.div.toNat + k) % 256 ∧
      t = { s with bus := { s.bus with div := t.bus.div }, divAcc := t.divAcc }) ∧
  (∀ (s : State) (c d : Nat), (s.timerStep c).timerStep d = s.timerStep (c + d))

/-- Sampling writes the joypad byte with a 0 for each pressed button, in the order Start, Select, B, A, Down, Up, Left,
Right from bit 7, and changes nothing else. A write to 0xFF00 stores bits 5:4 of the byte as the selection and changes
nothing else. A read has bits 7:6 set, the selection in bits 5:4, and each line of bits 3:0 is 0 exactly when a
selected nibble has it 0. -/
def Obligations.JoypadAndP1 : Prop :=
  (∀ (s : State) (p : Buttons), let t := s.sample p;
    t = { s with bus := { s.bus with joy := t.bus.joy } } ∧
    bitOf t.bus.joy 7 = !p.start ∧ bitOf t.bus.joy 6 = !p.select ∧ bitOf t.bus.joy 5 = !p.b ∧
    bitOf t.bus.joy 4 = !p.a ∧ bitOf t.bus.joy 3 = !p.down ∧ bitOf t.bus.joy 2 = !p.up ∧
    bitOf t.bus.joy 1 = !p.left ∧ bitOf t.bus.joy 0 = !p.right) ∧
  (∀ (echo : Bool) (b : Bus) (v : Byte), b.write echo 0xFF00 v = { b with sel := BitVec.ofNat 2 (v.toNat / 16) }) ∧
  (∀ (echo : Bool) (b : Bus), let v := b.read echo 0xFF00;
    bitOf v 7 = true ∧ bitOf v 6 = true ∧ bitOf v 5 = b.sel.getLsbD 1 ∧ bitOf v 4 = b.sel.getLsbD 0 ∧
    ∀ i, i < 4 → bitOf v i = ((b.sel.getLsbD 1 || bitOf b.joy (4 + i)) && (b.sel.getLsbD 0 || bitOf b.joy i)))

/-- With LCDC bit 0 clear a background pixel is index 0, shade 0; with it set, its index is the colour of the tile that
the selected map names at ((ly + SCY) mod 256, (x + SCX) mod 256), in the tile data LCDC bit 4 selects, and its shade
BGP's entry. The window pass runs iff LCDC bit 5 is set and WY <= ly; it restarts its counter at ly = WY, draws from
column WX - 7 on with the counter as its row, leaves the other columns, and adds one to the counter mod 256. Rendering
writes row ly of the frame and the counter only: for ly below 144 the row holds 160 shades, and its column x is the
sprite pass, over the sprites the line takes in drawing order, of the window pixel where the window runs, with the
counter as restarted as its row, over the background pixel, and of the background pixel where it does not. -/
def Obligations.BackgroundAndWindowPixels : Prop :=
  ∀ (b : Bus) (ly x : Nat),
    let map (bit : Nat) : Nat := if bitOf b.lcdc bit = true then 0x1C00 else 0x1800
    let bg := mapColour b (map 3) ((ly + b.scy.toNat) % 256) ((x + b.scx.toNat) % 256);
    (bitOf b.lcdc 0 = false → b.bgPixel ly x = ⟨0, 0⟩) ∧
    (bitOf b.lcdc 0 = true → (b.bgPixel ly x).bgIdx.toNat = bg ∧ (b.bgPixel ly x).shade.toNat = b.bgp.toNat / 4 ^ bg % 4) ∧
    (b.windowRuns ly = true ↔ bitOf b.lcdc 5 = true ∧ b.wy.toNat ≤ ly) ∧
    (∀ (row : Byte) (under : Pixel),
      let w := mapColour b (map 6) row.toNat (x + 7 - b.wx.toNat)
      let q := b.windowPixel row x under;
      (x + 7 < b.wx.toNat → q = under) ∧
      (b.wx.toNat ≤ x + 7 → q.bgIdx.toNat = w ∧ q.shade.toNat = b.bgp.toNat / 4 ^ w % 4)) ∧
    (∀ s : State, s.bus = b → let t := s.renderLine ly;
      t = { s with ppu := { s.ppu with frame := t.ppu.frame, windowLine := t.ppu.windowLine } } ∧
      (∀ j, j ≠ ly → t.ppu.frame[j]? = s.ppu.frame[j]?) ∧
      (b.windowRuns ly = false → t.ppu.windowLine = s.ppu.windowLine) ∧
      (b.windowRuns ly = true →
        t.ppu.windowLine.toNat = ((if ly = b.wy.toNat then 0 else s.ppu.windowLine.toNat) + 1) % 256) ∧
      (ly < 144 → s.ppu.frame.length = 144 →
        ∃ row, t.ppu.frame[ly]? = some row ∧ row.length = 160 ∧
          ∀ col, col < 160 →
            let counter : Byte := if ly = b.wy.toNat then 0 else s.ppu.windowLine
            let under := if b.windowRuns ly = true then b.windowPixel counter col (b.bgPixel ly col) else b.bgPixel ly col;
            row[col]? = some (b.spritePixel ly col under (orderSprites (b.selectSprites ly)))))

/-- With LCDC bit 1 clear no sprite is taken; with it set, the first ten entries in table order that meet the line. They
are drawn by X, and by table order among equal X. At a column the first in that order that covers it with an opaque
pixel decides: if its attribute bit 7 is set and the background index is not 0 the background's shade stays, else it
is OBP1's or OBP0's entry by attribute bit 4; with no opaque pixel the background's shade stays. The index is read at
the row and column after the flips, from tile (number with bit 0 cleared for height 16) * 16. -/
def Obligations.SpriteSelectionAndDrawing : Prop :=
  (∀ (b : Bus) (ly : Nat),
    (bitOf b.lcdc 1 = false → b.selectSprites ly = []) ∧
    (bitOf b.lcdc 1 = true → b.selectSprites ly = (((List.range 40).filter (meets b ly)).take 10).map b.sprite)) ∧
  (∀ l : List Sprite, (orderSprites l).Pairwise (fun p q => p.x.toNat ≤ q.x.toNat) ∧
    ∀ n, (orderSprites l).filter (fun q => decide (q.x.toNat = n)) = l.filter (fun q => decide (q.x.toNat = n))) ∧
  (∀ (b : Bus) (ly x : Nat) (under : Pixel) (l : List Sprite), (∀ q ∈ l, ¬Opaque b ly x q) →
    b.spritePixel ly x under l = under.shade ∧
    ∀ (q : Sprite) (l' : List Sprite), Opaque b ly x q →
      (b.spritePixel ly x under (l ++ q :: l')).toNat =
        if bitOf q.attr 7 = true ∧ under.bgIdx ≠ 0 then under.shade.toNat
        else (if bitOf q.attr 4 = true then b.obp1 else b.obp0).toNat / 4 ^ (b.spriteIndex ly x q).toNat % 4) ∧
  (∀ (b : Bus) (ly x : Nat) (q : Sprite), q.x.toNat ≤ x + 8 → x < q.x.toNat →
    let tall := bitOf b.lcdc 2
    let h := if tall = true then 16 else 8
    let row := ly + 16 - q.y.toNat
    let col := x + 8 - q.x.toNat;
    (b.spriteIndex ly x q).toNat = colourAt b
      (16 * (if tall = true then q.tile.toNat / 2 * 2 else q.tile.toNat))
      (if bitOf q.attr 6 = true then h - 1 - row else row) (if bitOf q.attr 5 = true then 7 - col else col))

/-- The state after reset, element by element as the table of R450 gives it, with the named registers of the post-boot
column, the published bytes of the I/O block, zeros in the RAM arrays, and the blank cartridge; and it is what powerOn
answers when the host supplies nothing. (The cartridge of a host that supplies nothing is that of R453. The addresses
of the audio bytes are PRESUMED, notes/assumptions/11.md, and not stated here.) -/
def Obligations.ResetValues : Prop :=
  let s := State.reset;
  (s.cpu.a = 0x01 ∧ s.cpu.f.pack = 0xB0 ∧ s.cpu.b = 0x00 ∧ s.cpu.c = 0x13 ∧ s.cpu.d = 0x00 ∧ s.cpu.e = 0xD8 ∧
    s.cpu.h = 0x01 ∧ s.cpu.l = 0x4D) ∧
  (s.cpu.pc = 0x0100 ∧ s.cpu.sp = 0xFFFE ∧ s.cpu.ime = false ∧ s.cpu.halted = false ∧ s.cpu.fatal = false) ∧
  (s.read 0xFF00 = 0xCF ∧ s.read 0xFF04 = 0xAB ∧ s.read 0xFF0F = 0xE1 ∧ s.read 0xFF40 = 0x91 ∧ s.read 0xFF41 = 0x86 ∧
    s.read 0xFF42 = 0 ∧ s.read 0xFF43 = 0 ∧ s.read 0xFF44 = 0 ∧ s.read 0xFF45 = 0 ∧ s.read 0xFF46 = 0xFF ∧
    s.read 0xFF47 = 0xFC ∧ s.read 0xFF48 = 0xFF ∧ s.read 0xFF49 = 0xFF ∧ s.read 0xFF4A = 0 ∧ s.read 0xFF4B = 0 ∧
    s.read 0xFFFF = 0 ∧ s.bus.bootLatch = false ∧ s.bus.joy = 0xFF) ∧
  (s.read 0xFF01 = 0 ∧ s.read 0xFF02 = 0x7E ∧ s.read 0xFF05 = 0 ∧ s.read 0xFF06 = 0 ∧ s.read 0xFF07 = 0xF8) ∧
  (∀ k, k < 0xFF00 ∨ 0xFF80 ≤ k → s.bus.mem.read k = 0) ∧
  (s.bus.cart.family = .romOnly ∧ s.bus.cart.romBank = 1 ∧ s.bus.cart.ramBank = 0 ∧ s.bus.cart.ramEnabled = false) ∧
  (s.ppu.mode = .oamSearch ∧ s.ppu.dots = 0 ∧ s.ppu.windowLine = 0 ∧ s.ppu.vblankTriggered = false ∧
    s.ppu.frame = List.replicate 144 (List.replicate 160 0) ∧ s.ppu.frameReady = false) ∧
  s.divAcc = 0 ∧ s.frameCycles = 0 ∧ powerOn {} = .ok s

/-- When a boot ROM is supplied, or its configured file is missing (256 zero bytes), and the cartridge is accepted: every
CPU register, PC, SP, the flags, IME, halted, the fatal mark, IF, IE and every named register is 0, STAT reads 0x80,
the latch is set, the joypad byte is 0xFF, the counters are 0, the PPU and the bank registers are as after the
post-boot reset, the I/O block and the RAM arrays hold InitialRam, reads below 0x0100 give the boot ROM's bytes, and
the first PPU step freezes the PPU in HBlank. -/
def Obligations.BootRomReset : Prop :=
  ∀ (h : Supply) (s : State) (boot : List Byte),
    (h.bootRom = .image boot ∧ boot.length = 256) ∨ (h.bootRom = .missingFile ∧ boot = List.replicate 256 0) →
    powerOn h = .ok s →
    (∀ r, s.cpu.reg r = 0) ∧ s.cpu.f = ⟨false, false, false, false⟩ ∧ s.cpu.sp = 0 ∧ s.cpu.pc = 0 ∧
    s.cpu.ime = false ∧ s.cpu.halted = false ∧ s.cpu.fatal = false ∧
    (∀ a ∈ ([0xFF04, 0xFF0F, 0xFF40, 0xFF42, 0xFF43, 0xFF44, 0xFF45, 0xFF46, 0xFF47, 0xFF48, 0xFF49, 0xFF4A, 0xFF4B,
      0xFFFF] : List Word), s.read a = 0) ∧
    s.bus.sel = 0 ∧ s.read 0xFF41 = 0x80 ∧ s.bus.bootLatch = true ∧ s.bus.joy = 0xFF ∧ s.divAcc = 0 ∧ s.frameCycles = 0 ∧
    s.ppu = Ppu.initial ∧ s.bus.cart.romBank = 1 ∧ s.bus.cart.ramBank = 0 ∧ s.bus.cart.ramEnabled = false ∧
    (∀ k, isRamArray k = true ∨ isIoBlock k = true → s.bus.mem.read k = Memory.find 0 h.config.initialRam k) ∧
    (∀ a : Word, a.toNat < 0x100 → s.read a = boot.getD a.toNat 0) ∧
    (∀ c, (s.ppuStep c).ppu = { Ppu.initial with mode := .hblank })

/-- The controller-type and RAM-size codes decode as the tables of R111 and R113 say, a code outside them to family None
without battery, or to no RAM, with a warning to the host. A cartridge whose ROM-size code is above 8 is refused, and
any other is accepted, with 2 * 2^code ROM banks and the family, battery flag, RAM size and RAM banks of its codes.
The ROM array is the image as loaded, byte by byte, and its size the image's. With a save file, a battery family and
RAM, the RAM the host can save is the first bytes of the save file, as many as fit, and zeros after; without a save
file, or in a family without battery, the RAM is all zero. Of a family without battery the host is handed no save; of
one with battery and RAM, the bytes of the RAM. -/
def Obligations.CartridgeAndSaveRamAreLoaded : Prop :=
  (∀ code : Byte, familyOf code = (controllerRows.lookup code).getD (.romOnly, false)) ∧
  (∀ code : Byte, ramSizeOf code = (ramSizeRows.lookup code).getD (0, 0)) ∧
  (∀ (img : Image) (code : Byte),
    (.unknownController code ∈ img.warnings ↔ code = img.byte 0x0147 ∧ controllerRows.lookup code = none) ∧
    (.unknownRamSize code ∈ img.warnings ↔ code = img.byte 0x0149 ∧ ramSizeRows.lookup code = none)) ∧
  (∀ s : State, (s.bus.cart.battery = false → s.saveRam = none) ∧
    (s.bus.cart.battery = true → 0 < s.bus.cart.ramSize →
      ∃ bs, s.saveRam = some bs ∧ bs.length = s.bus.cart.ramSize ∧
        ∀ off, off < s.bus.cart.ramSize → bs[off]? = some (s.bus.mem.read (ramKey off)))) ∧
  ∀ h : Supply, let img := h.cartridge.getD Image.blank
    let code := (img.byte 0x0148).toNat;
    (8 < code → powerOn h = .error (.romSizeCode (img.byte 0x0148))) ∧
    (code ≤ 8 → ∃ s, powerOn h = .ok s) ∧
    ∀ s, powerOn h = .ok s →
      s.bus.cart.romBanks = 2 * 2 ^ code ∧ s.bus.cart.romSize = img.size ∧
      (s.bus.cart.family, s.bus.cart.battery) = familyOf (img.byte 0x0147) ∧
      (s.bus.cart.ramSize, s.bus.cart.ramBanks) = ramSizeOf (img.byte 0x0149) ∧
      (∀ off, off < img.size → s.bus.mem.read (romKey off) = img.byte off) ∧
      (∀ bs, h.saveRam = some bs → s.bus.cart.battery = true → 0 < s.bus.cart.ramSize →
        s.saveRam = some (bs.take s.bus.cart.ramSize ++ List.replicate (s.bus.cart.ramSize - bs.length) 0)) ∧
      (h.saveRam = none ∨ s.bus.cart.battery = false → ∀ off, off < s.bus.cart.ramSize → s.bus.mem.read (ramKey off) = 0)

end
end

