-- ==== Sys2Proof/Laws/Memory.lean ====
section
/-!
SUPPORT. The laws of storage: a read after a write, and every operation keeps the canonical form.
-/

namespace Sys2Proof.Machine

/-! ### Reads -/

theorem Memory.read_erase_self (m : Memory) (k : Nat) : (m.erase k).read k = Memory.unlisted k := by
  induction m with
  | nil => rfl
  | cons c m ih =>
    by_cases h : c.1 = k
    · simpa [Memory.erase, h] using ih
    · simpa [Memory.erase, h, Memory.read] using ih

theorem Memory.read_erase_of_ne (m : Memory) {k k' : Nat} (h : k' ≠ k) : (m.erase k).read k' = m.read k' := by
  induction m with
  | nil => rfl
  | cons c m ih =>
    by_cases hc : c.1 = k
    · have hk : c.1 ≠ k' := fun e => h (e.symm.trans hc)
      simpa [Memory.erase, hc, Memory.read, Ne.symm h] using ih
    · simp only [Memory.erase, bne_iff_ne, ne_eq, hc, not_false_eq_true, List.filter_cons_of_pos, Memory.read]
      split
      · rfl
      · exact ih

theorem Memory.read_insert_self (m : Memory) (k : Nat) (v : Byte) (h : ∀ c ∈ m, c.1 ≠ k) :
    (Memory.insert k v m).read k = v := by
  induction m with
  | nil => simp [Memory.insert, Memory.read]
  | cons c m ih =>
    have hc := h c (by simp)
    simp only [Memory.insert]
    split
    · simp [Memory.read]
    · simp only [Memory.read, hc, if_false]
      exact ih fun d hd => h d (by simp [hd])

theorem Memory.read_insert_of_ne (m : Memory) {k k' : Nat} (v : Byte) (h : k' ≠ k) :
    (Memory.insert k v m).read k' = m.read k' := by
  induction m with
  | nil => simp [Memory.insert, Memory.read, Ne.symm h]
  | cons c m ih =>
    simp only [Memory.insert]
    split
    · simp [Memory.read, Ne.symm h]
    · simp only [Memory.read, ih]

theorem Memory.ne_of_mem_erase {m : Memory} {k : Nat} : ∀ c ∈ m.erase k, c.1 ≠ k := by
  intro c hc
  simpa using (List.mem_filter.mp hc).2

/-- A read after a write to the same key gives the value written. -/
@[simp] theorem Memory.read_write_self (m : Memory) (k : Nat) (v : Byte) : (m.write k v).read k = v := by
  unfold Memory.write
  split
  next h => rw [Memory.read_erase_self, h]
  next => exact Memory.read_insert_self _ k v Memory.ne_of_mem_erase

/-- A write leaves every other key alone. -/
theorem Memory.read_write_of_ne (m : Memory) {k k' : Nat} (v : Byte) (h : k' ≠ k) :
    (m.write k v).read k' = m.read k' := by
  unfold Memory.write
  split
  next => exact Memory.read_erase_of_ne m h
  next => rw [Memory.read_insert_of_ne _ v h, Memory.read_erase_of_ne m h]

theorem Memory.read_write (m : Memory) (k k' : Nat) (v : Byte) :
    (m.write k v).read k' = if k' = k then v else m.read k' := by
  split
  next h => rw [h, Memory.read_write_self]
  next h => exact Memory.read_write_of_ne m v h

@[simp] theorem Memory.read_nil (k : Nat) : Memory.read [] k = Memory.unlisted k := rfl

/-- Above the I/O block nothing is listed as published, so an unlisted key reads zero. -/
theorem Memory.unlisted_of_lt {k : Nat} (h : k < 0xFF00) : Memory.unlisted k = 0 := by
  simp [Memory.unlisted, h]

theorem Memory.find_of_ne {d : Byte} {m : Memory} {k : Nat} (h : ∀ c ∈ m, c.1 ≠ k) : Memory.find d m k = d := by
  induction m with
  | nil => rfl
  | cons c m ih =>
    simp only [Memory.find, h c (by simp), if_false]
    exact ih fun e he => h e (by simp [he])

theorem Memory.unlisted_of_ge {k : Nat} (h : 0xFF80 ≤ k) : Memory.unlisted k = 0 := by
  have hb : ∀ c ∈ publishedIo, c.1 < 0xFF80 := by decide
  have hk : ¬k < 0xFF00 := by omega
  simp only [Memory.unlisted, hk, if_false]
  apply Memory.find_of_ne
  intro c hc
  have := hb c hc
  omega

/-! ### The canonical form -/

theorem Memory.wf_nil : Memory.wf [] := by simp [Memory.wf]

theorem Memory.wf_erase {m : Memory} (h : m.wf) (k : Nat) : (m.erase k).wf :=
  ⟨h.1.filter _, fun c hc => h.2 c (List.mem_filter.mp hc).1⟩

theorem Memory.mem_insert {k : Nat} {v : Byte} {m : Memory} {c : Host.Cell} (h : c ∈ Memory.insert k v m) :
    c = (k, v) ∨ c ∈ m := by
  induction m with
  | nil => simpa [Memory.insert] using h
  | cons d m ih =>
    simp only [Memory.insert] at h
    split at h
    · simpa using h
    · rcases List.mem_cons.mp h with h | h
      · simp [h]
      · rcases ih h with h | h <;> simp [h]

theorem Memory.wf_insert {m : Memory} (h : m.wf) {k : Nat} {v : Byte} (hv : v ≠ Memory.unlisted k)
    (hk : ∀ c ∈ m, c.1 ≠ k) : (Memory.insert k v m).wf := by
  refine ⟨?_, fun c hc => ?_⟩
  · have hp := h.1
    clear h
    induction m with
    | nil => simp [Memory.insert]
    | cons d m ih =>
      rw [List.pairwise_cons] at hp
      have hd := hk d (by simp)
      simp only [Memory.insert]
      split
      next hlt =>
        rw [List.pairwise_cons, List.pairwise_cons]
        refine ⟨fun c hc => ?_, hp⟩
        rcases List.mem_cons.mp hc with hc | hc
        · rw [hc]
          exact hlt
        · exact Nat.lt_trans hlt (hp.1 c hc)
      next hge =>
        rw [List.pairwise_cons]
        refine ⟨fun c hc => ?_, ih (fun c hc => hk c (by simp [hc])) hp.2⟩
        rcases Memory.mem_insert hc with hc | hc
        · rw [hc]
          show d.1 < k
          omega
        · exact hp.1 c hc
  · rcases Memory.mem_insert hc with hc | hc
    · rw [hc]
      exact hv
    · exact h.2 c hc

/-- Every write keeps the canonical form. -/
theorem Memory.wf_write {m : Memory} (h : m.wf) (k : Nat) (v : Byte) : (m.write k v).wf := by
  unfold Memory.write
  split
  next => exact Memory.wf_erase h k
  next hv => exact Memory.wf_insert (Memory.wf_erase h k) hv Memory.ne_of_mem_erase

theorem Memory.wf_writeRun {m : Memory} (h : m.wf) (key : Nat → Nat) (i : Nat) (vs : List Byte) :
    (m.writeRun key i vs).wf := by
  induction vs generalizing m i with
  | nil => exact h
  | cons v vs ih => exact ih (Memory.wf_write h _ _) _

theorem Memory.wf_foldr {m : Memory} (h : m.wf) (f : Host.Cell → Memory → Memory) (hf : ∀ c m, m.wf → (f c m).wf)
    (cs : List Host.Cell) : (cs.foldr f m).wf := by
  induction cs with
  | nil => exact h
  | cons c cs ih => exact hf c _ ih

theorem Memory.wf_ite {m m' : Memory} {p : Prop} [Decidable p] (h : m.wf) (h' : m'.wf) : (if p then m' else m).wf := by
  split
  · exact h'
  · exact h

theorem Memory.wf_loadRom {m : Memory} (h : m.wf) (img : Image) : (m.loadRom img).wf :=
  Memory.wf_foldr h _ (fun _ _ hm => Memory.wf_ite hm (Memory.wf_write hm _ _)) _

theorem Memory.wf_loadSave {m : Memory} (h : m.wf) (cart : Cart) (save : Option (List Byte)) :
    (m.loadSave cart save).wf := by
  unfold Memory.loadSave
  split
  · split
    · exact Memory.wf_writeRun h _ _ _
    · exact h
  · exact h

theorem Memory.wf_postBoot (cs : List Host.Cell) : (Memory.postBoot cs).wf :=
  Memory.wf_foldr Memory.wf_nil _ (fun _ _ hm => Memory.wf_ite hm (Memory.wf_write hm _ _)) _

theorem Memory.wf_bootRom (cs : List Host.Cell) : (Memory.bootRom cs).wf :=
  Memory.wf_foldr (Memory.wf_foldr Memory.wf_nil _ (fun _ _ hm => Memory.wf_write hm _ _) _) _
    (fun _ _ hm => Memory.wf_ite hm (Memory.wf_write hm _ _)) _

end Sys2Proof.Machine
end

