-- ==== Sys2Proof/Laws/Bus.lean ====
section
/-!
SUPPORT. The laws of the bus: what a store and a write keep, and what they leave alone.
-/

namespace Sys2Proof.Machine

/-! ### The bank controller -/

/-- A control write keeps everything that a load fixed. -/
theorem Cart.control_static (c : Cart) (n : Nat) (v : Byte) :
    (c.control n v).family = c.family ∧ (c.control n v).battery = c.battery ∧ (c.control n v).romSize = c.romSize ∧
    (c.control n v).romBanks = c.romBanks ∧ (c.control n v).ramSize = c.ramSize ∧
    (c.control n v).ramBanks = c.ramBanks := by
  unfold Cart.control
  repeat' split
  all_goals exact ⟨rfl, rfl, rfl, rfl, rfl, rfl⟩

theorem rom_bank_bounds (v m : Byte) (k : Nat) (hm : m.toNat = k) (h : 1 ≤ k) :
    let r : BitVec 9 := if v &&& m = 0 then 1 else (v &&& m).setWidth 9
    1 ≤ r.toNat ∧ r.toNat ≤ k := by
  intro r
  have hle : (v &&& m).toNat ≤ k := by
    rw [BitVec.toNat_and, ← hm]
    exact Nat.and_le_right
  simp only [r]
  split
  next => exact ⟨Nat.le_refl 1, h⟩
  next hz =>
    have hlt := (v &&& m).isLt
    have hne : (v &&& m).toNat ≠ 0 := fun e => hz (BitVec.eq_of_toNat_eq e)
    rw [BitVec.toNat_setWidth, Nat.mod_eq_of_lt (by omega)]
    omega

theorem ram_bank_bound (v : Byte) : ((v &&& 0x03).setWidth 4).toNat ≤ 3 := by
  have hle : (v &&& 0x03).toNat ≤ 3 := by
    rw [BitVec.toNat_and]
    exact Nat.and_le_right
  rw [BitVec.toNat_setWidth, Nat.mod_eq_of_lt (by omega)]
  exact hle

/-- A control write leaves bank registers their family can hold. -/
theorem Cart.control_legal {c : Cart} (h : c.Legal) (n : Nat) (v : Byte) : (c.control n v).Legal := by
  obtain ⟨hf, _, _, hr, hs, hb⟩ := c.control_static n v
  obtain ⟨h1, h2, h3⟩ := h
  refine ⟨by rw [hr]; exact h1, by rw [hs, hb]; exact h2, ?_⟩
  rw [hf]
  unfold Cart.control
  cases hfam : c.family <;> simp only [hfam] at h3 ⊢
  · exact h3
  · split
    · exact h3
    split
    · exact ⟨(rom_bank_bounds v 0x1F 0x1F rfl (by decide)).1, (rom_bank_bounds v 0x1F 0x1F rfl (by decide)).2, h3.2.2⟩
    split
    · exact ⟨h3.1, h3.2.1, ram_bank_bound v⟩
    · exact h3
  · split
    · exact h3
    split
    · exact ⟨(rom_bank_bounds v 0x7F 0x7F rfl (by decide)).1, (rom_bank_bounds v 0x7F 0x7F rfl (by decide)).2, h3.2.2⟩
    split
    · exact ⟨h3.1, h3.2.1, ram_bank_bound v⟩
    · exact h3

/-- A legal controller has at most 128 KiB of RAM, so its keys stay below the ROM image's. -/
theorem Cart.Legal.ramSize_le {c : Cart} (h : c.Legal) : c.ramSize ≤ 0x20000 := by
  obtain ⟨_, ⟨code, hc⟩, _⟩ := h
  have hb : (ramSizeOf code).1 ≤ 0x20000 := by
    unfold ramSizeOf
    split <;> decide
  have he : (ramSizeOf code).1 = c.ramSize := congrArg Prod.fst hc
  exact he ▸ hb

theorem Cart.ramOffset_lt {c : Cart} {n off : Nat} (h : c.ramOffset n = some off) : off < c.ramSize := by
  simp only [Cart.ramOffset] at h
  split at h
  · exact nomatch h
  split at h
  next hlt => exact Option.some.inj h ▸ hlt
  · exact nomatch h

/-! ### Everything a store can do -/

/-- The plain regions lie in the bus's own arrays. -/
theorem regionKey_lt {echo : Bool} {n k : Nat} (h : regionKey echo n = some k) : k < 0x10000 := by
  have key (m : Nat) (hm : m < 0x10000) (e : some m = some k) : k < 0x10000 := Option.some.inj e ▸ hm
  unfold regionKey at h
  split at h
  · exact key n (by omega) h
  split at h
  · exact key n (by omega) h
  split at h
  · split at h
    · exact key (n - 0x2000) (by omega) h
    · exact nomatch h
  split at h
  · exact key n (by omega) h
  split at h
  · exact key n (by omega) h
  · exact nomatch h

/-- A property that holds of every one-field update a store can make holds after the store. -/
theorem Bus.store_cases {P : Bus → Prop} (echo : Bool) (b : Bus) (a : Word) (v : Byte) (same : P b)
    (ctrl : ∀ n, P { b with cart := b.cart.control n v })
    (ram : ∀ n off, b.cart.ramOffset n = some off → P { b with mem := b.mem.write (ramKey off) v })
    (plain : ∀ k, k < 0x10000 → P { b with mem := b.mem.write k v })
    (named : ∀ r, P (b.namedStore r v)) : P (b.store echo a v) := by
  unfold Bus.store
  split
  · unfold Bus.mbcWrite
    split
    · exact ctrl _
    split
    next off h => exact ram _ off h
    next => exact same
  split
  next r _ => exact named r
  next =>
    split
    next k hk =>
      exact plain k (regionKey_lt hk)
    next => exact same

/-- A property that every store keeps is kept by OAM DMA. -/
theorem Bus.dmaCopy_of_store {P : Bus → Prop} (echo : Bool) (hs : ∀ b a v, P b → P (b.store echo a v)) (src : Word)
    (n i : Nat) (b : Bus) (h : P b) : P (b.dmaCopy echo src n i) := by
  induction n generalizing i b with
  | zero => exact h
  | succ n ih => exact ih _ _ (hs _ _ _ h)

/-- A property that every store keeps is kept by every write. -/
theorem Bus.write_of_store {P : Bus → Prop} (echo : Bool) (hs : ∀ b a v, P b → P (b.store echo a v)) (b : Bus) (a : Word)
    (v : Byte) (h : P b) : P (b.write echo a v) := by
  unfold Bus.write
  split
  · exact Bus.dmaCopy_of_store echo hs _ _ _ _ (hs _ _ _ h)
  · exact hs _ _ _ h

/-! ### What a write keeps -/

/-- A write keeps storage canonical. -/
theorem Bus.write_wf (echo : Bool) (b : Bus) (a : Word) (v : Byte) (h : b.mem.wf) : (b.write echo a v).mem.wf := by
  refine Bus.write_of_store (P := fun b => b.mem.wf) echo (fun b a v h => ?_) b a v h
  refine Bus.store_cases (P := fun b => b.mem.wf) echo b a v h (fun _ => h) (fun _ _ _ => Memory.wf_write h _ _)
    (fun _ _ => Memory.wf_write h _ _) (fun r => ?_)
  cases r <;> simp only [Bus.namedStore] <;> try exact h
  · split <;> exact h
  · exact Memory.wf_write h _ _

/-- A write keeps the bank controller legal. -/
theorem Bus.write_legal (echo : Bool) (b : Bus) (a : Word) (v : Byte) (h : b.cart.Legal) :
    (b.write echo a v).cart.Legal := by
  refine Bus.write_of_store (P := fun b => b.cart.Legal) echo (fun b a v h => ?_) b a v h
  refine Bus.store_cases (P := fun b => b.cart.Legal) echo b a v h (fun _ => Cart.control_legal h _ _) (fun _ _ _ => h)
    (fun _ _ => h) (fun r => ?_)
  cases r <;> simp only [Bus.namedStore] <;> try exact h
  split <;> exact h

/-- A write leaves the joypad byte alone and never sets the boot latch. -/
theorem Bus.write_joy_latch (echo : Bool) (b : Bus) (a : Word) (v : Byte) :
    (b.write echo a v).joy = b.joy ∧ ((b.write echo a v).bootLatch = true → b.bootLatch = true) := by
  refine Bus.write_of_store (P := fun d => d.joy = b.joy ∧ (d.bootLatch = true → b.bootLatch = true)) echo
    (fun d a v h => ?_) b a v ⟨rfl, id⟩
  refine Bus.store_cases (P := fun d => d.joy = b.joy ∧ (d.bootLatch = true → b.bootLatch = true)) echo d a v h
    (fun _ => h) (fun _ _ _ => h) (fun _ _ => h) (fun r => ?_)
  cases r <;> simp only [Bus.namedStore] <;> try exact h
  · split <;> exact h
  · exact ⟨h.1, fun h => nomatch h⟩

/-- A write that leaves the LCD off has LY at 0, if it was so before. -/
theorem Bus.write_lcdOff (echo : Bool) (b : Bus) (a : Word) (v : Byte) (h : bitOf b.lcdc 7 = false → b.ly = 0) :
    bitOf (b.write echo a v).lcdc 7 = false → (b.write echo a v).ly = 0 := by
  refine Bus.write_of_store (P := fun d => bitOf d.lcdc 7 = false → d.ly = 0) echo (fun d a v h => ?_) b a v h
  refine Bus.store_cases (P := fun d => bitOf d.lcdc 7 = false → d.ly = 0) echo d a v h
    (fun _ => h) (fun _ _ _ => h) (fun _ _ => h) (fun r => ?_)
  cases r <;> simp only [Bus.namedStore] <;> try exact h
  split
  next hv => exact fun hf => absurd (hf.symm.trans hv) (by decide)
  next => exact fun _ => rfl

/-- A store through OAM DMA changes nothing but storage. -/
theorem Bus.store_oam (echo : Bool) (b : Bus) (i : Nat) (v : Byte) (h : i < 160) :
    b.store echo (0xFE00 + BitVec.ofNat 16 i) v = { b with mem := b.mem.write (0xFE00 + i) v } := by
  have ha : (0xFE00 + BitVec.ofNat 16 i : Word).toNat = 0xFE00 + i := by
    rw [BitVec.toNat_add, BitVec.toNat_ofNat]
    show (0xFE00 + i % 65536) % 65536 = 0xFE00 + i
    omega
  have h1 : isBankRange (0xFE00 + i) = false := by
    simp only [isBankRange, Bool.or_eq_false_iff, Bool.and_eq_false_iff, decide_eq_false_iff_not]
    omega
  have h2 : namedRegAt (0xFE00 + i) = none := by
    unfold namedRegAt
    rw [if_pos (by omega)]
  have h3 : regionKey echo (0xFE00 + i) = some (0xFE00 + i) := by
    unfold regionKey
    rw [if_neg (by omega), if_neg (by omega), if_neg (by omega), if_pos (by omega)]
  simp only [Bus.store, ha, h1, h2, h3, Bool.false_eq_true, if_false]

/-- Plain storage, the boot ROM's keys, the RAM's and the ROM image's do not meet. -/
theorem keys_apart {c : Cart} (h : c.Legal) {off i r k : Nat} (ho : off < c.ramSize) (hi : i < 256) (hk : k < 0x10000) :
    ramKey off ≠ romKey r ∧ ramKey off ≠ bootKey i ∧ ramKey off ≠ k ∧ romKey r ≠ bootKey i ∧ romKey r ≠ k ∧
    bootKey i ≠ k := by
  have := h.ramSize_le
  simp only [ramKey, romKey, bootKey]
  omega

end Sys2Proof.Machine
end

