-- ==== Sys2Proof/Laws/State.lean ====
section
/-!
SUPPORT. One lemma for each field of the state under each update of it, so that no later proof unfolds a record update.
-/

namespace Sys2Proof.Machine

/-! `setCpu` -/
@[simp] theorem State.setCpu_config (s : State) (c : Cpu) : (s.setCpu c).config = s.config := rfl
@[simp] theorem State.setCpu_cpu (s : State) (c : Cpu) : (s.setCpu c).cpu = c := rfl
@[simp] theorem State.setCpu_bus (s : State) (c : Cpu) : (s.setCpu c).bus = s.bus := rfl
@[simp] theorem State.setCpu_ppu (s : State) (c : Cpu) : (s.setCpu c).ppu = s.ppu := rfl
@[simp] theorem State.setCpu_divAcc (s : State) (c : Cpu) : (s.setCpu c).divAcc = s.divAcc := rfl
@[simp] theorem State.setCpu_frameCycles (s : State) (c : Cpu) : (s.setCpu c).frameCycles = s.frameCycles := rfl
@[simp] theorem State.setCpu_inputs (s : State) (c : Cpu) : (s.setCpu c).inputs = s.inputs := rfl

/-! `setBus` -/
@[simp] theorem State.setBus_config (s : State) (b : Bus) : (s.setBus b).config = s.config := rfl
@[simp] theorem State.setBus_cpu (s : State) (b : Bus) : (s.setBus b).cpu = s.cpu := rfl
@[simp] theorem State.setBus_bus (s : State) (b : Bus) : (s.setBus b).bus = b := rfl
@[simp] theorem State.setBus_ppu (s : State) (b : Bus) : (s.setBus b).ppu = s.ppu := rfl
@[simp] theorem State.setBus_divAcc (s : State) (b : Bus) : (s.setBus b).divAcc = s.divAcc := rfl
@[simp] theorem State.setBus_frameCycles (s : State) (b : Bus) : (s.setBus b).frameCycles = s.frameCycles := rfl
@[simp] theorem State.setBus_inputs (s : State) (b : Bus) : (s.setBus b).inputs = s.inputs := rfl

/-! `setReg` -/
@[simp] theorem State.setReg_config (s : State) (r : R8) (v : Byte) : (s.setReg r v).config = s.config := rfl
@[simp] theorem State.setReg_cpu (s : State) (r : R8) (v : Byte) : (s.setReg r v).cpu = s.cpu.setReg r v := rfl
@[simp] theorem State.setReg_bus (s : State) (r : R8) (v : Byte) : (s.setReg r v).bus = s.bus := rfl
@[simp] theorem State.setReg_ppu (s : State) (r : R8) (v : Byte) : (s.setReg r v).ppu = s.ppu := rfl
@[simp] theorem State.setReg_divAcc (s : State) (r : R8) (v : Byte) : (s.setReg r v).divAcc = s.divAcc := rfl
@[simp] theorem State.setReg_frameCycles (s : State) (r : R8) (v : Byte) : (s.setReg r v).frameCycles = s.frameCycles := rfl
@[simp] theorem State.setReg_inputs (s : State) (r : R8) (v : Byte) : (s.setReg r v).inputs = s.inputs := rfl

/-! `setFlags` -/
@[simp] theorem State.setFlags_config (s : State) (f : Flags) : (s.setFlags f).config = s.config := rfl
@[simp] theorem State.setFlags_cpu (s : State) (f : Flags) : (s.setFlags f).cpu = { s.cpu with f := f } := rfl
@[simp] theorem State.setFlags_bus (s : State) (f : Flags) : (s.setFlags f).bus = s.bus := rfl
@[simp] theorem State.setFlags_ppu (s : State) (f : Flags) : (s.setFlags f).ppu = s.ppu := rfl
@[simp] theorem State.setFlags_divAcc (s : State) (f : Flags) : (s.setFlags f).divAcc = s.divAcc := rfl
@[simp] theorem State.setFlags_frameCycles (s : State) (f : Flags) : (s.setFlags f).frameCycles = s.frameCycles := rfl
@[simp] theorem State.setFlags_inputs (s : State) (f : Flags) : (s.setFlags f).inputs = s.inputs := rfl

/-! `setPc` -/
@[simp] theorem State.setPc_config (s : State) (w : Word) : (s.setPc w).config = s.config := rfl
@[simp] theorem State.setPc_cpu (s : State) (w : Word) : (s.setPc w).cpu = { s.cpu with pc := w } := rfl
@[simp] theorem State.setPc_bus (s : State) (w : Word) : (s.setPc w).bus = s.bus := rfl
@[simp] theorem State.setPc_ppu (s : State) (w : Word) : (s.setPc w).ppu = s.ppu := rfl
@[simp] theorem State.setPc_divAcc (s : State) (w : Word) : (s.setPc w).divAcc = s.divAcc := rfl
@[simp] theorem State.setPc_frameCycles (s : State) (w : Word) : (s.setPc w).frameCycles = s.frameCycles := rfl
@[simp] theorem State.setPc_inputs (s : State) (w : Word) : (s.setPc w).inputs = s.inputs := rfl

/-! `setSp` -/
@[simp] theorem State.setSp_config (s : State) (w : Word) : (s.setSp w).config = s.config := rfl
@[simp] theorem State.setSp_cpu (s : State) (w : Word) : (s.setSp w).cpu = { s.cpu with sp := w } := rfl
@[simp] theorem State.setSp_bus (s : State) (w : Word) : (s.setSp w).bus = s.bus := rfl
@[simp] theorem State.setSp_ppu (s : State) (w : Word) : (s.setSp w).ppu = s.ppu := rfl
@[simp] theorem State.setSp_divAcc (s : State) (w : Word) : (s.setSp w).divAcc = s.divAcc := rfl
@[simp] theorem State.setSp_frameCycles (s : State) (w : Word) : (s.setSp w).frameCycles = s.frameCycles := rfl
@[simp] theorem State.setSp_inputs (s : State) (w : Word) : (s.setSp w).inputs = s.inputs := rfl

/-! `charge` -/
@[simp] theorem State.charge_config (s : State) (n : Nat) : (s.charge n).config = s.config := rfl
@[simp] theorem State.charge_cpu (s : State) (n : Nat) : (s.charge n).cpu = { s.cpu with cost := n } := rfl
@[simp] theorem State.charge_bus (s : State) (n : Nat) : (s.charge n).bus = s.bus := rfl
@[simp] theorem State.charge_ppu (s : State) (n : Nat) : (s.charge n).ppu = s.ppu := rfl
@[simp] theorem State.charge_divAcc (s : State) (n : Nat) : (s.charge n).divAcc = s.divAcc := rfl
@[simp] theorem State.charge_frameCycles (s : State) (n : Nat) : (s.charge n).frameCycles = s.frameCycles := rfl
@[simp] theorem State.charge_inputs (s : State) (n : Nat) : (s.charge n).inputs = s.inputs := rfl

/-! `write` -/
@[simp] theorem State.write_config (s : State) (a : Word) (v : Byte) : (s.write a v).config = s.config := rfl
@[simp] theorem State.write_cpu (s : State) (a : Word) (v : Byte) : (s.write a v).cpu = s.cpu := rfl
@[simp] theorem State.write_bus (s : State) (a : Word) (v : Byte) : (s.write a v).bus = s.bus.write s.config.echoRam a v := rfl
@[simp] theorem State.write_ppu (s : State) (a : Word) (v : Byte) : (s.write a v).ppu = s.ppu := rfl
@[simp] theorem State.write_divAcc (s : State) (a : Word) (v : Byte) : (s.write a v).divAcc = s.divAcc := rfl
@[simp] theorem State.write_frameCycles (s : State) (a : Word) (v : Byte) : (s.write a v).frameCycles = s.frameCycles := rfl
@[simp] theorem State.write_inputs (s : State) (a : Word) (v : Byte) : (s.write a v).inputs = s.inputs := rfl

/-! `dropTop` -/
@[simp] theorem State.dropTop_config (s : State) : (s.dropTop).config = s.config := rfl
@[simp] theorem State.dropTop_cpu (s : State) : (s.dropTop).cpu = { s.cpu with sp := s.cpu.sp + 2 } := rfl
@[simp] theorem State.dropTop_bus (s : State) : (s.dropTop).bus = s.bus := rfl
@[simp] theorem State.dropTop_ppu (s : State) : (s.dropTop).ppu = s.ppu := rfl
@[simp] theorem State.dropTop_divAcc (s : State) : (s.dropTop).divAcc = s.divAcc := rfl
@[simp] theorem State.dropTop_frameCycles (s : State) : (s.dropTop).frameCycles = s.frameCycles := rfl
@[simp] theorem State.dropTop_inputs (s : State) : (s.dropTop).inputs = s.inputs := rfl

/-! `raiseFatal` -/
@[simp] theorem State.raiseFatal_config (s : State) (a : Word) : (s.raiseFatal a).config = s.config := rfl
@[simp] theorem State.raiseFatal_cpu (s : State) (a : Word) : (s.raiseFatal a).cpu = { s.cpu with fatal := true, fatalAddr := a, pc := a } := rfl
@[simp] theorem State.raiseFatal_bus (s : State) (a : Word) : (s.raiseFatal a).bus = s.bus := rfl
@[simp] theorem State.raiseFatal_ppu (s : State) (a : Word) : (s.raiseFatal a).ppu = s.ppu := rfl
@[simp] theorem State.raiseFatal_divAcc (s : State) (a : Word) : (s.raiseFatal a).divAcc = s.divAcc := rfl
@[simp] theorem State.raiseFatal_frameCycles (s : State) (a : Word) : (s.raiseFatal a).frameCycles = s.frameCycles := rfl
@[simp] theorem State.raiseFatal_inputs (s : State) (a : Word) : (s.raiseFatal a).inputs = s.inputs := rfl

/-! `returnFromInterrupt` -/
@[simp] theorem State.returnFromInterrupt_config (s : State) : (s.returnFromInterrupt).config = s.config := rfl
@[simp] theorem State.returnFromInterrupt_cpu (s : State) : (s.returnFromInterrupt).cpu = { s.cpu with sp := s.cpu.sp + 2, pc := s.top16, ime := true } := rfl
@[simp] theorem State.returnFromInterrupt_bus (s : State) : (s.returnFromInterrupt).bus = s.bus := rfl
@[simp] theorem State.returnFromInterrupt_ppu (s : State) : (s.returnFromInterrupt).ppu = s.ppu := rfl
@[simp] theorem State.returnFromInterrupt_divAcc (s : State) : (s.returnFromInterrupt).divAcc = s.divAcc := rfl
@[simp] theorem State.returnFromInterrupt_frameCycles (s : State) : (s.returnFromInterrupt).frameCycles = s.frameCycles := rfl
@[simp] theorem State.returnFromInterrupt_inputs (s : State) : (s.returnFromInterrupt).inputs = s.inputs := rfl

/-! `reqIF` -/
@[simp] theorem State.reqIF_config (s : State) (n : Nat) : (s.reqIF n).config = s.config := rfl
@[simp] theorem State.reqIF_cpu (s : State) (n : Nat) : (s.reqIF n).cpu = s.cpu := rfl
@[simp] theorem State.reqIF_bus (s : State) (n : Nat) : (s.reqIF n).bus = { s.bus with ifr := s.bus.ifr ||| ((1 : Byte) <<< n) } := rfl
@[simp] theorem State.reqIF_ppu (s : State) (n : Nat) : (s.reqIF n).ppu = s.ppu := rfl
@[simp] theorem State.reqIF_divAcc (s : State) (n : Nat) : (s.reqIF n).divAcc = s.divAcc := rfl
@[simp] theorem State.reqIF_frameCycles (s : State) (n : Nat) : (s.reqIF n).frameCycles = s.frameCycles := rfl
@[simp] theorem State.reqIF_inputs (s : State) (n : Nat) : (s.reqIF n).inputs = s.inputs := rfl

/-! `setLy` -/
@[simp] theorem State.setLy_config (s : State) (v : Byte) : (s.setLy v).config = s.config := rfl
@[simp] theorem State.setLy_cpu (s : State) (v : Byte) : (s.setLy v).cpu = s.cpu := rfl
@[simp] theorem State.setLy_bus (s : State) (v : Byte) : (s.setLy v).bus = { s.bus with ly := v } := rfl
@[simp] theorem State.setLy_ppu (s : State) (v : Byte) : (s.setLy v).ppu = s.ppu := rfl
@[simp] theorem State.setLy_divAcc (s : State) (v : Byte) : (s.setLy v).divAcc = s.divAcc := rfl
@[simp] theorem State.setLy_frameCycles (s : State) (v : Byte) : (s.setLy v).frameCycles = s.frameCycles := rfl
@[simp] theorem State.setLy_inputs (s : State) (v : Byte) : (s.setLy v).inputs = s.inputs := rfl

/-! `sample` -/
@[simp] theorem State.sample_config (s : State) (b : Buttons) : (s.sample b).config = s.config := rfl
@[simp] theorem State.sample_cpu (s : State) (b : Buttons) : (s.sample b).cpu = s.cpu := rfl
@[simp] theorem State.sample_bus (s : State) (b : Buttons) : (s.sample b).bus = { s.bus with joy := b.lines } := rfl
@[simp] theorem State.sample_ppu (s : State) (b : Buttons) : (s.sample b).ppu = s.ppu := rfl
@[simp] theorem State.sample_divAcc (s : State) (b : Buttons) : (s.sample b).divAcc = s.divAcc := rfl
@[simp] theorem State.sample_frameCycles (s : State) (b : Buttons) : (s.sample b).frameCycles = s.frameCycles := rfl
@[simp] theorem State.sample_inputs (s : State) (b : Buttons) : (s.sample b).inputs = s.inputs := rfl

/-! `renderLine` -/
@[simp] theorem State.renderLine_config (s : State) (ly : Nat) : (s.renderLine ly).config = s.config := rfl
@[simp] theorem State.renderLine_cpu (s : State) (ly : Nat) : (s.renderLine ly).cpu = s.cpu := rfl
@[simp] theorem State.renderLine_bus (s : State) (ly : Nat) : (s.renderLine ly).bus = s.bus := rfl
@[simp] theorem State.renderLine_ppu (s : State) (ly : Nat) : (s.renderLine ly).ppu = { s.ppu with frame := s.ppu.frame.set ly (s.bus.renderRow ly s.ppu.windowLine), windowLine := if s.bus.windowRuns ly then s.bus.windowRow ly s.ppu.windowLine + 1 else s.ppu.windowLine } := rfl
@[simp] theorem State.renderLine_divAcc (s : State) (ly : Nat) : (s.renderLine ly).divAcc = s.divAcc := rfl
@[simp] theorem State.renderLine_frameCycles (s : State) (ly : Nat) : (s.renderLine ly).frameCycles = s.frameCycles := rfl
@[simp] theorem State.renderLine_inputs (s : State) (ly : Nat) : (s.renderLine ly).inputs = s.inputs := rfl

/-! `push16` -/
@[simp] theorem State.push16_config (s : State) (w : Word) : (s.push16 w).config = s.config := rfl
@[simp] theorem State.push16_cpu (s : State) (w : Word) : (s.push16 w).cpu = { s.cpu with sp := s.cpu.sp - 2 } := by
  have h : s.cpu.sp - 1 - 1 = s.cpu.sp - 2 := by rw [BitVec.sub_sub]; rfl
  simp only [State.push16, State.write_cpu, State.setSp_cpu, h]
@[simp] theorem State.push16_bus (s : State) (w : Word) : (s.push16 w).bus =
    (s.bus.write s.config.echoRam (s.cpu.sp - 1) (hi w)).write s.config.echoRam (s.cpu.sp - 2) (lo w) := by
  have h : s.cpu.sp - 1 - 1 = s.cpu.sp - 2 := by rw [BitVec.sub_sub]; rfl
  simp only [State.push16, State.write_cpu, State.setSp_cpu, State.write_bus, State.setSp_bus, State.setSp_config,
    State.write_config, h]
@[simp] theorem State.push16_ppu (s : State) (w : Word) : (s.push16 w).ppu = s.ppu := rfl
@[simp] theorem State.push16_divAcc (s : State) (w : Word) : (s.push16 w).divAcc = s.divAcc := rfl
@[simp] theorem State.push16_frameCycles (s : State) (w : Word) : (s.push16 w).frameCycles = s.frameCycles := rfl
@[simp] theorem State.push16_inputs (s : State) (w : Word) : (s.push16 w).inputs = s.inputs := rfl

/-! `Cpu.setReg` and `Cpu.reg` -/
@[simp] theorem Cpu.setReg_f (c : Cpu) (r : R8) (v : Byte) : (c.setReg r v).f = c.f := by cases r <;> rfl
@[simp] theorem Cpu.setReg_sp (c : Cpu) (r : R8) (v : Byte) : (c.setReg r v).sp = c.sp := by cases r <;> rfl
@[simp] theorem Cpu.setReg_pc (c : Cpu) (r : R8) (v : Byte) : (c.setReg r v).pc = c.pc := by cases r <;> rfl
@[simp] theorem Cpu.setReg_ime (c : Cpu) (r : R8) (v : Byte) : (c.setReg r v).ime = c.ime := by cases r <;> rfl
@[simp] theorem Cpu.setReg_halted (c : Cpu) (r : R8) (v : Byte) : (c.setReg r v).halted = c.halted := by cases r <;> rfl
@[simp] theorem Cpu.setReg_fatal (c : Cpu) (r : R8) (v : Byte) : (c.setReg r v).fatal = c.fatal := by cases r <;> rfl
@[simp] theorem Cpu.setReg_fatalAddr (c : Cpu) (r : R8) (v : Byte) : (c.setReg r v).fatalAddr = c.fatalAddr := by cases r <;> rfl
@[simp] theorem Cpu.setReg_cost (c : Cpu) (r : R8) (v : Byte) : (c.setReg r v).cost = c.cost := by cases r <;> rfl
@[simp] theorem Cpu.reg_setReg_self (c : Cpu) (r : R8) (v : Byte) : (c.setReg r v).reg r = v := by cases r <;> rfl
theorem Cpu.reg_setReg_of_ne (c : Cpu) {r q : R8} (v : Byte) (h : q ≠ r) : (c.setReg r v).reg q = c.reg q := by
  cases r <;> cases q <;> first | rfl | exact absurd rfl h

/-! Pairs: the halves, and a pair read after it is written -/
theorem w16_toNat (h l : Byte) : (w16 h l).toNat = 256 * h.toNat + l.toNat := by
  have : (w16 h l).toNat = h.toNat <<< 8 ||| l.toNat := BitVec.toNat_append h l
  rw [this, ← Nat.shiftLeft_add_eq_or_of_lt l.isLt, Nat.shiftLeft_eq]
  omega
theorem hi_toNat (w : Word) : (hi w).toNat = w.toNat / 256 := by
  simp [hi, Nat.shiftRight_eq_div_pow]
  omega
theorem lo_toNat (w : Word) : (lo w).toNat = w.toNat % 256 := by simp [lo]
@[simp] theorem hi_w16 (h l : Byte) : hi (w16 h l) = h := by
  apply BitVec.eq_of_toNat_eq
  rw [hi_toNat, w16_toNat]
  omega
@[simp] theorem lo_w16 (h l : Byte) : lo (w16 h l) = l := by
  apply BitVec.eq_of_toNat_eq
  rw [lo_toNat, w16_toNat]
  omega
@[simp] theorem w16_hi_lo (w : Word) : w16 (hi w) (lo w) = w := by
  apply BitVec.eq_of_toNat_eq
  rw [w16_toNat, hi_toNat, lo_toNat]
  omega
@[simp] theorem Cpu.pair_setPair (c : Cpu) (p : Rp) (w : Word) : (c.setPair p w).pair p = w := by
  cases p <;> simp [Cpu.setPair, Cpu.pair, Cpu.setBc, Cpu.setDe, Cpu.setHl, Cpu.bc, Cpu.de, Cpu.hl]
@[simp] theorem Cpu.setPair_a (c : Cpu) (p : Rp) (w : Word) : (c.setPair p w).a = c.a := by cases p <;> rfl
@[simp] theorem Cpu.setPair_f (c : Cpu) (p : Rp) (w : Word) : (c.setPair p w).f = c.f := by cases p <;> rfl
@[simp] theorem Cpu.setPair_pc (c : Cpu) (p : Rp) (w : Word) : (c.setPair p w).pc = c.pc := by cases p <;> rfl
@[simp] theorem Cpu.setPair_ime (c : Cpu) (p : Rp) (w : Word) : (c.setPair p w).ime = c.ime := by cases p <;> rfl
@[simp] theorem Cpu.setPair_halted (c : Cpu) (p : Rp) (w : Word) : (c.setPair p w).halted = c.halted := by cases p <;> rfl
@[simp] theorem Cpu.setPair_fatal (c : Cpu) (p : Rp) (w : Word) : (c.setPair p w).fatal = c.fatal := by cases p <;> rfl
@[simp] theorem Cpu.setPair_fatalAddr (c : Cpu) (p : Rp) (w : Word) : (c.setPair p w).fatalAddr = c.fatalAddr := by cases p <;> rfl
@[simp] theorem Cpu.setPair_cost (c : Cpu) (p : Rp) (w : Word) : (c.setPair p w).cost = c.cost := by cases p <;> rfl
@[simp] theorem Cpu.setStackPair_pc (c : Cpu) (p : Rp2) (w : Word) : (c.setStackPair p w).pc = c.pc := by
  cases p <;> rfl
@[simp] theorem Cpu.setStackPair_sp (c : Cpu) (p : Rp2) (w : Word) : (c.setStackPair p w).sp = c.sp := by
  cases p <;> rfl
@[simp] theorem Cpu.setStackPair_ime (c : Cpu) (p : Rp2) (w : Word) : (c.setStackPair p w).ime = c.ime := by
  cases p <;> rfl
@[simp] theorem Cpu.setStackPair_halted (c : Cpu) (p : Rp2) (w : Word) : (c.setStackPair p w).halted = c.halted := by
  cases p <;> rfl
@[simp] theorem Cpu.setStackPair_fatal (c : Cpu) (p : Rp2) (w : Word) : (c.setStackPair p w).fatal = c.fatal := by
  cases p <;> rfl
@[simp] theorem Cpu.setStackPair_fatalAddr (c : Cpu) (p : Rp2) (w : Word) : (c.setStackPair p w).fatalAddr = c.fatalAddr := by
  cases p <;> rfl
@[simp] theorem Cpu.setStackPair_cost (c : Cpu) (p : Rp2) (w : Word) : (c.setStackPair p w).cost = c.cost := by
  cases p <;> rfl
@[simp] theorem Cpu.setHl_f (c : Cpu) (w : Word) : (c.setHl w).f = c.f := rfl
@[simp] theorem Cpu.hl_setHl (c : Cpu) (w : Word) : (c.setHl w).hl = w := by simp [Cpu.setHl, Cpu.hl]

/-! The flags packed and unpacked (spec/10_state.md R24) -/
@[simp] theorem Flags.unpack_pack (f : Flags) : Flags.unpack f.pack = f := by
  rcases f with ⟨z, n, h, c⟩
  cases z <;> cases n <;> cases h <;> cases c <;> decide

/-! `enterMode` -/
@[simp] theorem State.enterMode_config (s : State) (m : Mode) : (s.enterMode m).config = s.config := rfl
@[simp] theorem State.enterMode_cpu (s : State) (m : Mode) : (s.enterMode m).cpu = s.cpu := rfl
@[simp] theorem State.enterMode_divAcc (s : State) (m : Mode) : (s.enterMode m).divAcc = s.divAcc := rfl
@[simp] theorem State.enterMode_frameCycles (s : State) (m : Mode) : (s.enterMode m).frameCycles = s.frameCycles := rfl
@[simp] theorem State.enterMode_inputs (s : State) (m : Mode) : (s.enterMode m).inputs = s.inputs := rfl
@[simp] theorem State.enterMode_ppu (s : State) (m : Mode) : (s.enterMode m).ppu = { s.ppu with mode := m } := rfl
@[simp] theorem State.enterMode_ly (s : State) (m : Mode) : (s.enterMode m).bus.ly = s.bus.ly := rfl
@[simp] theorem State.enterMode_lcdc (s : State) (m : Mode) : (s.enterMode m).bus.lcdc = s.bus.lcdc := rfl
@[simp] theorem State.enterMode_mem (s : State) (m : Mode) : (s.enterMode m).bus.mem = s.bus.mem := rfl
@[simp] theorem State.enterMode_cart (s : State) (m : Mode) : (s.enterMode m).bus.cart = s.bus.cart := rfl
@[simp] theorem State.enterMode_ifr (s : State) (m : Mode) : (s.enterMode m).bus.ifr = s.bus.ifr := rfl

end Sys2Proof.Machine
end

