-- ==== Sys2Proof/Laws/Devices.lean ====
section
/-!
SUPPORT. The laws of the PPU and the timer: what each operation leaves alone, and what the loop of a PPU step keeps.
-/

namespace Sys2Proof.Machine

/-! ### What the PPU leaves alone -/

/-- `t` differs from `s` only in what the PPU owns: its own state, LY, STAT and IF. -/
structure PpuFrame (s t : State) : Prop where
  config : t.config = s.config
  cpu : t.cpu = s.cpu
  divAcc : t.divAcc = s.divAcc
  frameCycles : t.frameCycles = s.frameCycles
  inputs : t.inputs = s.inputs
  bus : t.bus = { s.bus with stat := t.bus.stat, ly := t.bus.ly, ifr := t.bus.ifr }

theorem PpuFrame.refl (s : State) : PpuFrame s s := ⟨rfl, rfl, rfl, rfl, rfl, rfl⟩

theorem PpuFrame.trans {s t u : State} (h : PpuFrame s t) (k : PpuFrame t u) : PpuFrame s u :=
  ⟨k.config.trans h.config, k.cpu.trans h.cpu, k.divAcc.trans h.divAcc, k.frameCycles.trans h.frameCycles,
    k.inputs.trans h.inputs, by rw [k.bus, h.bus]⟩

theorem PpuFrame.ite {s t u : State} {c : Prop} [Decidable c] (h : PpuFrame s t) (k : PpuFrame s u) :
    PpuFrame s (if c then t else u) := by
  split
  · exact h
  · exact k

theorem PpuFrame.lcdc {s t : State} (h : PpuFrame s t) : t.bus.lcdc = s.bus.lcdc := by rw [h.bus]

theorem PpuFrame.mem {s t : State} (h : PpuFrame s t) : t.bus.mem = s.bus.mem := by rw [h.bus]

theorem PpuFrame.cart {s t : State} (h : PpuFrame s t) : t.bus.cart = s.bus.cart := by rw [h.bus]

theorem PpuFrame.ppuOnly (s : State) (p : Ppu) : PpuFrame s { s with ppu := p } := ⟨rfl, rfl, rfl, rfl, rfl, rfl⟩

theorem State.reqIF_frame (s : State) (n : Nat) : PpuFrame s (s.reqIF n) := ⟨rfl, rfl, rfl, rfl, rfl, rfl⟩

theorem State.enterMode_frame (s : State) (m : Mode) : PpuFrame s (s.enterMode m) := ⟨rfl, rfl, rfl, rfl, rfl, rfl⟩

theorem State.setLy_frame (s : State) (v : Byte) : PpuFrame s (s.setLy v) := ⟨rfl, rfl, rfl, rfl, rfl, rfl⟩

theorem State.statRequest_frame (s : State) (i : Nat) : PpuFrame s (s.statRequest i) :=
  .ite (s.reqIF_frame 1) (.refl s)

theorem State.renderLine_frame (s : State) (n : Nat) : PpuFrame s (s.renderLine n) := ⟨rfl, rfl, rfl, rfl, rfl, rfl⟩

theorem State.compareLY_frame (s : State) : PpuFrame s s.compareLY := by
  have h : PpuFrame s (s.setBus { s.bus with
      stat := (s.bus.stat.extractLsb' 3 4 ++ BitVec.ofBool (s.bus.ly == s.bus.lyc)) ++ s.bus.stat.extractLsb' 0 2 }) :=
    ⟨rfl, rfl, rfl, rfl, rfl, rfl⟩
  exact .ite (h.trans (State.statRequest_frame _ _)) h

theorem State.enterOAM_frame (s : State) : PpuFrame s s.enterOAM :=
  ((s.enterMode_frame .oamSearch).trans (.ppuOnly _ _)).trans (State.statRequest_frame _ _)

theorem State.enterHBlank_frame (s : State) : PpuFrame s s.enterHBlank := by
  have h : PpuFrame s ((s.enterMode .hblank).statRequest 3) :=
    (s.enterMode_frame .hblank).trans (State.statRequest_frame _ _)
  exact .ite (h.trans (State.renderLine_frame _ _)) h

theorem State.enterVBlank_frame (s : State) : PpuFrame s s.enterVBlank := by
  refine PpuFrame.trans (s.enterMode_frame .vblank) (PpuFrame.trans ?_ (State.statRequest_frame _ _))
  exact .ite (.refl _) ((State.reqIF_frame _ 0).trans (.ppuOnly _ _))

theorem State.endHBlank_frame (s : State) : PpuFrame s s.endHBlank := by
  have h : PpuFrame s (s.setLy (s.bus.ly + 1)).compareLY := (State.setLy_frame _ _).trans (State.compareLY_frame _)
  exact .ite (h.trans (State.enterVBlank_frame _)) (h.trans (State.enterOAM_frame _))

theorem State.endVBlankLine_frame (s : State) : PpuFrame s s.endVBlankLine :=
  .ite (((State.setLy_frame _ _).trans (State.compareLY_frame _)).trans (State.enterOAM_frame _))
    ((State.setLy_frame _ _).trans (State.compareLY_frame _))

theorem State.endPhase_frame (s : State) : PpuFrame s s.endPhase := by
  unfold State.endPhase
  split
  · exact s.enterMode_frame .transfer
  · exact s.enterHBlank_frame
  · exact s.endHBlank_frame
  · exact s.endVBlankLine_frame

/-- A property that the end of a phase keeps, the phase's length taken off the accumulator, is kept by the loop. -/
theorem State.ppuLoop_of_endPhase {P : State → Prop}
    (h : ∀ s : State, s.ppu.mode.length ≤ s.ppu.dots → P s →
      P (State.endPhase { s with ppu := { s.ppu with dots := s.ppu.dots - s.ppu.mode.length } }))
    (fuel : Nat) (s : State) (hs : P s) : P (State.ppuLoop fuel s) := by
  induction fuel generalizing s with
  | zero => exact hs
  | succ fuel ih =>
    unfold State.ppuLoop
    split
    next hd => exact ih _ (h s hd hs)
    next => exact hs

/-- A PPU step leaves alone everything that the PPU does not own. -/
theorem State.ppuStep_frame (s : State) (c : Nat) : PpuFrame s (s.ppuStep c) := by
  unfold State.ppuStep
  split
  · refine State.ppuLoop_of_endPhase (P := PpuFrame s) (fun t _ h => ?_) _ _ (.ppuOnly _ _)
    exact h.trans (PpuFrame.trans (.ppuOnly _ _) (State.endPhase_frame _))
  · exact (s.enterMode_frame .hblank).trans (.ppuOnly _ _)

/-! ### The timer and the driver -/

@[simp] theorem State.timerStep_ppu (s : State) (c : Nat) : (s.timerStep c).ppu = s.ppu := rfl

@[simp] theorem State.timerStep_cpu (s : State) (c : Nat) : (s.timerStep c).cpu = s.cpu := rfl

@[simp] theorem State.timerStep_config (s : State) (c : Nat) : (s.timerStep c).config = s.config := rfl

@[simp] theorem State.timerStep_mem (s : State) (c : Nat) : (s.timerStep c).bus.mem = s.bus.mem := rfl

@[simp] theorem State.timerStep_cart (s : State) (c : Nat) : (s.timerStep c).bus.cart = s.bus.cart := rfl

/-- The accumulator of the timer stays below 256. -/
theorem State.timerStep_divAcc_lt (s : State) (c : Nat) : (s.timerStep c).divAcc < 256 :=
  Nat.mod_lt _ (by decide)

/-- What a tick leaves alone. -/
theorem State.tick_frame (s : State) (c : Nat) :
    (s.tick c).config = s.config ∧ (s.tick c).cpu = s.cpu ∧ (s.tick c).inputs = s.inputs ∧
    (s.tick c).bus.mem = s.bus.mem ∧ (s.tick c).bus.cart = s.bus.cart ∧
    (s.tick c).frameCycles = s.frameCycles + c := by
  have h := s.ppuStep_frame c
  refine ⟨h.config, h.cpu, h.inputs, h.mem, h.cart, ?_⟩
  show (s.ppuStep c).frameCycles + c = _
  rw [h.frameCycles]

/-! ### The accumulator of the PPU -/

/-- Every phase is at least 80 cycles long. -/
theorem Mode.length_ge (m : Mode) : 80 ≤ m.length := by cases m <;> decide

@[simp] theorem State.statRequest_ppu (s : State) (i : Nat) : (s.statRequest i).ppu = s.ppu := by
  unfold State.statRequest
  split <;> rfl

@[simp] theorem State.compareLY_ppu (s : State) : s.compareLY.ppu = s.ppu := by
  simp only [State.compareLY]
  split
  · exact State.statRequest_ppu _ _
  · rfl

@[simp] theorem State.enterOAM_ppu (s : State) :
    s.enterOAM.ppu = { s.ppu with mode := .oamSearch, vblankTriggered := false } := State.statRequest_ppu _ _

@[simp] theorem State.enterHBlank_dots (s : State) : s.enterHBlank.ppu.dots = s.ppu.dots := by
  simp only [State.enterHBlank]
  split <;> simp only [State.renderLine, State.statRequest_ppu] <;> rfl

@[simp] theorem State.enterVBlank_dots (s : State) : s.enterVBlank.ppu.dots = s.ppu.dots := by
  simp only [State.enterVBlank, State.statRequest_ppu]
  split <;> rfl

@[simp] theorem State.endHBlank_dots (s : State) : s.endHBlank.ppu.dots = s.ppu.dots := by
  simp only [State.endHBlank]
  split
  · simp only [State.enterVBlank_dots, State.compareLY_ppu]
    rfl
  · simp only [State.enterOAM_ppu, State.compareLY_ppu]
    rfl

@[simp] theorem State.endVBlankLine_dots (s : State) : s.endVBlankLine.ppu.dots = s.ppu.dots := by
  simp only [State.endVBlankLine]
  split
  · simp only [State.enterOAM_ppu, State.compareLY_ppu]
    rfl
  · simp only [State.compareLY_ppu]
    rfl

/-- The end of a phase does not touch the accumulator. -/
@[simp] theorem State.endPhase_dots (s : State) : s.endPhase.ppu.dots = s.ppu.dots := by
  unfold State.endPhase
  split
  · rfl
  · exact State.enterHBlank_dots s
  · exact State.endHBlank_dots s
  · exact State.endVBlankLine_dots s

/-- With fuel for every 80 cycles of the accumulator, the loop ends below the phase's length. -/
theorem State.ppuLoop_dots (fuel : Nat) (s : State) (h : s.ppu.dots < 80 * fuel) :
    (State.ppuLoop fuel s).ppu.dots < (State.ppuLoop fuel s).ppu.mode.length := by
  induction fuel generalizing s with
  | zero => omega
  | succ fuel ih =>
    unfold State.ppuLoop
    split
    next hd =>
      apply ih
      have := s.ppu.mode.length_ge
      rw [State.endPhase_dots]
      show s.ppu.dots - s.ppu.mode.length < 80 * fuel
      omega
    next hd => omega

/-- The fuel of `ppuStep` covers the whole loop (notes/assumptions/12.md). -/
theorem State.ppuStep_fuel (d : Nat) : d < 80 * (d / 80 + 1) := by omega

end Sys2Proof.Machine
end

