-- ==== Sys2Proof/Laws/Exec.lean ====
section
/-!
SUPPORT. What the dispatch does for each shape of instruction, the case analysis of an instruction by its shape, and the one
lemma that says what any instruction can change.
-/

namespace Sys2Proof.Machine

/-! ### The dispatch, shape by shape -/

@[simp] theorem exec_ldRegRegI (dst r : R8) (s : State) : exec (ldRegRegI dst r) s = ldRegReg dst r s := by cases dst <;> cases r <;> rfl
@[simp] theorem exec_ldRegImmI (n8 : Byte) (dst : R8) (s : State) : exec (ldRegImmI n8 dst) s = ldRegImm dst n8 s := by cases dst <;> rfl
@[simp] theorem exec_ldRegMemI (dst : R8) (s : State) : exec (ldRegMemI dst) s = ldRegMem dst s := by cases dst <;> rfl
@[simp] theorem exec_ldMemRegI (r : R8) (s : State) : exec (ldMemRegI r) s = ldMemReg r s := by cases r <;> rfl
@[simp] theorem exec_loadAI (m : Addr) (s : State) : exec (loadAI m) s = ldToA m s := by cases m <;> rfl
@[simp] theorem exec_storeAI (m : Addr) (s : State) : exec (storeAI m) s = ldFromA m s := by cases m <;> rfl
@[simp] theorem exec_ldPairImmI (n16 : Word) (p : Rp) (s : State) : exec (ldPairImmI n16 p) s = ldPairImm p n16 s := by cases p <;> rfl
@[simp] theorem exec_pushI (p : Rp2) (s : State) : exec (pushI p) s = pushPair p s := by cases p <;> rfl
@[simp] theorem exec_popI (p : Rp2) (s : State) : exec (popI p) s = popPair p s := by cases p <;> rfl
@[simp] theorem exec_addHlI (p : Rp) (s : State) : exec (addHlI p) s = addHl p s := by cases p <;> rfl
@[simp] theorem exec_incPairI (p : Rp) (s : State) : exec (incPairI p) s = incPair p s := by cases p <;> rfl
@[simp] theorem exec_decPairI (p : Rp) (s : State) : exec (decPairI p) s = decPair p s := by cases p <;> rfl
@[simp] theorem exec_jpIfI (a16 : Word) (cc : Cond) (s : State) : exec (jpIfI a16 cc) s = jumpIf cc a16 s := by cases cc <;> rfl
@[simp] theorem exec_jrIfI (e8 : Byte) (cc : Cond) (s : State) : exec (jrIfI e8 cc) s = jumpRelIf cc e8 s := by cases cc <;> rfl
@[simp] theorem exec_callIfI (a16 : Word) (cc : Cond) (s : State) : exec (callIfI a16 cc) s = callIf cc a16 s := by cases cc <;> rfl
@[simp] theorem exec_retIfI (cc : Cond) (s : State) : exec (retIfI cc) s = returnIf cc s := by cases cc <;> rfl
@[simp] theorem exec_rstI (t : BitIdx) (s : State) : exec (rstI t) s = restart t s := by cases t <;> rfl
@[simp] theorem exec_aluI (op : AluOp) (x : Src) (s : State) : exec (aluI op x) s = aluOp op x s := by
  cases x with
  | reg r => cases op <;> cases r <;> rfl
  | atHL => cases op <;> rfl
  | imm n8 => cases op <;> rfl
@[simp] theorem exec_incI (x : Loc) (s : State) : exec (incI x) s = incLoc x s := by
  cases x with
  | reg r => cases r <;> rfl
  | atHL => rfl
@[simp] theorem exec_decI (x : Loc) (s : State) : exec (decI x) s = decLoc x s := by
  cases x with
  | reg r => cases r <;> rfl
  | atHL => rfl
@[simp] theorem exec_rotI (op : RotOp) (x : Loc) (s : State) : exec (rotI op x) s = rotLoc op x s := by
  cases x with
  | reg r => cases op <;> cases r <;> rfl
  | atHL => cases op <;> rfl
@[simp] theorem exec_bitI (op : BitIdx) (x : Loc) (s : State) : exec (bitI op x) s = bitLoc op x s := by
  cases x with
  | reg r => cases op <;> cases r <;> rfl
  | atHL => cases op <;> rfl
@[simp] theorem exec_resI (op : BitIdx) (x : Loc) (s : State) : exec (resI op x) s = resLoc op x s := by
  cases x with
  | reg r => cases op <;> cases r <;> rfl
  | atHL => cases op <;> rfl
@[simp] theorem exec_setI (op : BitIdx) (x : Loc) (s : State) : exec (setI op x) s = setLoc op x s := by
  cases x with
  | reg r => cases op <;> cases r <;> rfl
  | atHL => cases op <;> rfl

/-! ### The shapes of an instruction -/

/-- What is true of every shape is true of every instruction. -/
theorem Instr_by_shape {P : Instr → Prop}
    (h_ldRegReg : ∀ dst r, P (ldRegRegI dst r))
    (h_ldRegImm : ∀ n8 dst, P (ldRegImmI n8 dst))
    (h_ldRegMem : ∀ dst, P (ldRegMemI dst))
    (h_ldMemReg : ∀ r, P (ldMemRegI r))
    (h_ldMemImm : ∀ n8, P (.ld_atHL_n8 n8))
    (h_loadA : ∀ m, P (loadAI m))
    (h_storeA : ∀ m, P (storeAI m))
    (h_ldPairImm : ∀ n16 p, P (ldPairImmI n16 p))
    (h_ldMemSp : ∀ a16, P (.ld_atA16_sp a16))
    (h_ldSpHl : P .ld_sp_hl)
    (h_ldHlSp : ∀ e8, P (.ld_hl_sp_e8 e8))
    (h_push : ∀ p, P (pushI p))
    (h_pop : ∀ p, P (popI p))
    (h_alu : ∀ op x, P (aluI op x))
    (h_inc : ∀ x, P (incI x))
    (h_dec : ∀ x, P (decI x))
    (h_daa : P .daa)
    (h_cpl : P .cpl)
    (h_scf : P .scf)
    (h_ccf : P .ccf)
    (h_addHl : ∀ p, P (addHlI p))
    (h_incPair : ∀ p, P (incPairI p))
    (h_decPair : ∀ p, P (decPairI p))
    (h_addSp : ∀ e8, P (.add_sp_e8 e8))
    (h_rlca : P .rlca)
    (h_rrca : P .rrca)
    (h_rla : P .rla)
    (h_rra : P .rra)
    (h_rot : ∀ op x, P (rotI op x))
    (h_bit : ∀ b x, P (bitI b x))
    (h_res : ∀ b x, P (resI b x))
    (h_set : ∀ b x, P (setI b x))
    (h_jp : ∀ a16, P (.jp_a16 a16))
    (h_jpIf : ∀ a16 cc, P (jpIfI a16 cc))
    (h_jpHl : P .jp_hl)
    (h_jr : ∀ e8, P (.jr_e8 e8))
    (h_jrIf : ∀ e8 cc, P (jrIfI e8 cc))
    (h_call : ∀ a16, P (.call_a16 a16))
    (h_callIf : ∀ a16 cc, P (callIfI a16 cc))
    (h_ret : P .ret)
    (h_retIf : ∀ cc, P (retIfI cc))
    (h_reti : P .reti)
    (h_rst : ∀ t, P (rstI t))
    (h_nop : P .nop)
    (h_stop : ∀ ign8, P (.stop ign8))
    (h_halt : P .halt)
    (h_di : P .di)
    (h_ei : P .ei)
    (h_illegal : ∀ op, P (.illegal op))
    (h_prefixCB : P .prefixCB) :
    ∀ i, P i := by
  intro i
  cases i with
  | nop => exact h_nop
  | ld_bc_n16 n => exact h_ldPairImm n .bc
  | ld_atBC_a => exact h_storeA .bc
  | inc_bc => exact h_incPair .bc
  | inc_b => exact h_inc (.reg .b)
  | dec_b => exact h_dec (.reg .b)
  | ld_b_n8 n => exact h_ldRegImm n .b
  | rlca => exact h_rlca
  | ld_atA16_sp n => exact h_ldMemSp n
  | add_hl_bc => exact h_addHl .bc
  | ld_a_atBC => exact h_loadA .bc
  | dec_bc => exact h_decPair .bc
  | inc_c => exact h_inc (.reg .c)
  | dec_c => exact h_dec (.reg .c)
  | ld_c_n8 n => exact h_ldRegImm n .c
  | rrca => exact h_rrca
  | stop n => exact h_stop n
  | ld_de_n16 n => exact h_ldPairImm n .de
  | ld_atDE_a => exact h_storeA .de
  | inc_de => exact h_incPair .de
  | inc_d => exact h_inc (.reg .d)
  | dec_d => exact h_dec (.reg .d)
  | ld_d_n8 n => exact h_ldRegImm n .d
  | rla => exact h_rla
  | jr_e8 n => exact h_jr n
  | add_hl_de => exact h_addHl .de
  | ld_a_atDE => exact h_loadA .de
  | dec_de => exact h_decPair .de
  | inc_e => exact h_inc (.reg .e)
  | dec_e => exact h_dec (.reg .e)
  | ld_e_n8 n => exact h_ldRegImm n .e
  | rra => exact h_rra
  | jr_nz_e8 n => exact h_jrIf n .nz
  | ld_hl_n16 n => exact h_ldPairImm n .hl
  | ld_atHLI_a => exact h_storeA .hlInc
  | inc_hl => exact h_incPair .hl
  | inc_h => exact h_inc (.reg .h)
  | dec_h => exact h_dec (.reg .h)
  | ld_h_n8 n => exact h_ldRegImm n .h
  | daa => exact h_daa
  | jr_z_e8 n => exact h_jrIf n .z
  | add_hl_hl => exact h_addHl .hl
  | ld_a_atHLI => exact h_loadA .hlInc
  | dec_hl => exact h_decPair .hl
  | inc_l => exact h_inc (.reg .l)
  | dec_l => exact h_dec (.reg .l)
  | ld_l_n8 n => exact h_ldRegImm n .l
  | cpl => exact h_cpl
  | jr_nc_e8 n => exact h_jrIf n .nc
  | ld_sp_n16 n => exact h_ldPairImm n .sp
  | ld_atHLD_a => exact h_storeA .hlDec
  | inc_sp => exact h_incPair .sp
  | inc_atHL => exact h_inc .atHL
  | dec_atHL => exact h_dec .atHL
  | ld_atHL_n8 n => exact h_ldMemImm n
  | scf => exact h_scf
  | jr_c_e8 n => exact h_jrIf n .c
  | add_hl_sp => exact h_addHl .sp
  | ld_a_atHLD => exact h_loadA .hlDec
  | dec_sp => exact h_decPair .sp
  | inc_a => exact h_inc (.reg .a)
  | dec_a => exact h_dec (.reg .a)
  | ld_a_n8 n => exact h_ldRegImm n .a
  | ccf => exact h_ccf
  | ld_b_b => exact h_ldRegReg .b .b
  | ld_b_c => exact h_ldRegReg .b .c
  | ld_b_d => exact h_ldRegReg .b .d
  | ld_b_e => exact h_ldRegReg .b .e
  | ld_b_h => exact h_ldRegReg .b .h
  | ld_b_l => exact h_ldRegReg .b .l
  | ld_b_atHL => exact h_ldRegMem .b
  | ld_b_a => exact h_ldRegReg .b .a
  | ld_c_b => exact h_ldRegReg .c .b
  | ld_c_c => exact h_ldRegReg .c .c
  | ld_c_d => exact h_ldRegReg .c .d
  | ld_c_e => exact h_ldRegReg .c .e
  | ld_c_h => exact h_ldRegReg .c .h
  | ld_c_l => exact h_ldRegReg .c .l
  | ld_c_atHL => exact h_ldRegMem .c
  | ld_c_a => exact h_ldRegReg .c .a
  | ld_d_b => exact h_ldRegReg .d .b
  | ld_d_c => exact h_ldRegReg .d .c
  | ld_d_d => exact h_ldRegReg .d .d
  | ld_d_e => exact h_ldRegReg .d .e
  | ld_d_h => exact h_ldRegReg .d .h
  | ld_d_l => exact h_ldRegReg .d .l
  | ld_d_atHL => exact h_ldRegMem .d
  | ld_d_a => exact h_ldRegReg .d .a
  | ld_e_b => exact h_ldRegReg .e .b
  | ld_e_c => exact h_ldRegReg .e .c
  | ld_e_d => exact h_ldRegReg .e .d
  | ld_e_e => exact h_ldRegReg .e .e
  | ld_e_h => exact h_ldRegReg .e .h
  | ld_e_l => exact h_ldRegReg .e .l
  | ld_e_atHL => exact h_ldRegMem .e
  | ld_e_a => exact h_ldRegReg .e .a
  | ld_h_b => exact h_ldRegReg .h .b
  | ld_h_c => exact h_ldRegReg .h .c
  | ld_h_d => exact h_ldRegReg .h .d
  | ld_h_e => exact h_ldRegReg .h .e
  | ld_h_h => exact h_ldRegReg .h .h
  | ld_h_l => exact h_ldRegReg .h .l
  | ld_h_atHL => exact h_ldRegMem .h
  | ld_h_a => exact h_ldRegReg .h .a
  | ld_l_b => exact h_ldRegReg .l .b
  | ld_l_c => exact h_ldRegReg .l .c
  | ld_l_d => exact h_ldRegReg .l .d
  | ld_l_e => exact h_ldRegReg .l .e
  | ld_l_h => exact h_ldRegReg .l .h
  | ld_l_l => exact h_ldRegReg .l .l
  | ld_l_atHL => exact h_ldRegMem .l
  | ld_l_a => exact h_ldRegReg .l .a
  | ld_atHL_b => exact h_ldMemReg .b
  | ld_atHL_c => exact h_ldMemReg .c
  | ld_atHL_d => exact h_ldMemReg .d
  | ld_atHL_e => exact h_ldMemReg .e
  | ld_atHL_h => exact h_ldMemReg .h
  | ld_atHL_l => exact h_ldMemReg .l
  | halt => exact h_halt
  | ld_atHL_a => exact h_ldMemReg .a
  | ld_a_b => exact h_ldRegReg .a .b
  | ld_a_c => exact h_ldRegReg .a .c
  | ld_a_d => exact h_ldRegReg .a .d
  | ld_a_e => exact h_ldRegReg .a .e
  | ld_a_h => exact h_ldRegReg .a .h
  | ld_a_l => exact h_ldRegReg .a .l
  | ld_a_atHL => exact h_ldRegMem .a
  | ld_a_a => exact h_ldRegReg .a .a
  | add_a_b => exact h_alu .add (.reg .b)
  | add_a_c => exact h_alu .add (.reg .c)
  | add_a_d => exact h_alu .add (.reg .d)
  | add_a_e => exact h_alu .add (.reg .e)
  | add_a_h => exact h_alu .add (.reg .h)
  | add_a_l => exact h_alu .add (.reg .l)
  | add_a_atHL => exact h_alu .add .atHL
  | add_a_a => exact h_alu .add (.reg .a)
  | adc_a_b => exact h_alu .adc (.reg .b)
  | adc_a_c => exact h_alu .adc (.reg .c)
  | adc_a_d => exact h_alu .adc (.reg .d)
  | adc_a_e => exact h_alu .adc (.reg .e)
  | adc_a_h => exact h_alu .adc (.reg .h)
  | adc_a_l => exact h_alu .adc (.reg .l)
  | adc_a_atHL => exact h_alu .adc .atHL
  | adc_a_a => exact h_alu .adc (.reg .a)
  | sub_b => exact h_alu .sub (.reg .b)
  | sub_c => exact h_alu .sub (.reg .c)
  | sub_d => exact h_alu .sub (.reg .d)
  | sub_e => exact h_alu .sub (.reg .e)
  | sub_h => exact h_alu .sub (.reg .h)
  | sub_l => exact h_alu .sub (.reg .l)
  | sub_atHL => exact h_alu .sub .atHL
  | sub_a => exact h_alu .sub (.reg .a)
  | sbc_a_b => exact h_alu .sbc (.reg .b)
  | sbc_a_c => exact h_alu .sbc (.reg .c)
  | sbc_a_d => exact h_alu .sbc (.reg .d)
  | sbc_a_e => exact h_alu .sbc (.reg .e)
  | sbc_a_h => exact h_alu .sbc (.reg .h)
  | sbc_a_l => exact h_alu .sbc (.reg .l)
  | sbc_a_atHL => exact h_alu .sbc .atHL
  | sbc_a_a => exact h_alu .sbc (.reg .a)
  | and_b => exact h_alu .and (.reg .b)
  | and_c => exact h_alu .and (.reg .c)
  | and_d => exact h_alu .and (.reg .d)
  | and_e => exact h_alu .and (.reg .e)
  | and_h => exact h_alu .and (.reg .h)
  | and_l => exact h_alu .and (.reg .l)
  | and_atHL => exact h_alu .and .atHL
  | and_a => exact h_alu .and (.reg .a)
  | xor_b => exact h_alu .xor (.reg .b)
  | xor_c => exact h_alu .xor (.reg .c)
  | xor_d => exact h_alu .xor (.reg .d)
  | xor_e => exact h_alu .xor (.reg .e)
  | xor_h => exact h_alu .xor (.reg .h)
  | xor_l => exact h_alu .xor (.reg .l)
  | xor_atHL => exact h_alu .xor .atHL
  | xor_a => exact h_alu .xor (.reg .a)
  | or_b => exact h_alu .or (.reg .b)
  | or_c => exact h_alu .or (.reg .c)
  | or_d => exact h_alu .or (.reg .d)
  | or_e => exact h_alu .or (.reg .e)
  | or_h => exact h_alu .or (.reg .h)
  | or_l => exact h_alu .or (.reg .l)
  | or_atHL => exact h_alu .or .atHL
  | or_a => exact h_alu .or (.reg .a)
  | cp_b => exact h_alu .cp (.reg .b)
  | cp_c => exact h_alu .cp (.reg .c)
  | cp_d => exact h_alu .cp (.reg .d)
  | cp_e => exact h_alu .cp (.reg .e)
  | cp_h => exact h_alu .cp (.reg .h)
  | cp_l => exact h_alu .cp (.reg .l)
  | cp_atHL => exact h_alu .cp .atHL
  | cp_a => exact h_alu .cp (.reg .a)
  | ret_nz => exact h_retIf .nz
  | pop_bc => exact h_pop .bc
  | jp_nz_a16 n => exact h_jpIf n .nz
  | jp_a16 n => exact h_jp n
  | call_nz_a16 n => exact h_callIf n .nz
  | push_bc => exact h_push .bc
  | add_a_n8 n => exact h_alu .add (.imm n)
  | rst_00 => exact h_rst .b0
  | ret_z => exact h_retIf .z
  | ret => exact h_ret
  | jp_z_a16 n => exact h_jpIf n .z
  | prefixCB => exact h_prefixCB
  | call_z_a16 n => exact h_callIf n .z
  | call_a16 n => exact h_call n
  | adc_a_n8 n => exact h_alu .adc (.imm n)
  | rst_08 => exact h_rst .b1
  | ret_nc => exact h_retIf .nc
  | pop_de => exact h_pop .de
  | jp_nc_a16 n => exact h_jpIf n .nc
  | illegal n => exact h_illegal n
  | call_nc_a16 n => exact h_callIf n .nc
  | push_de => exact h_push .de
  | sub_n8 n => exact h_alu .sub (.imm n)
  | rst_10 => exact h_rst .b2
  | ret_c => exact h_retIf .c
  | reti => exact h_reti
  | jp_c_a16 n => exact h_jpIf n .c
  | call_c_a16 n => exact h_callIf n .c
  | sbc_a_n8 n => exact h_alu .sbc (.imm n)
  | rst_18 => exact h_rst .b3
  | ldh_atA8_a n => exact h_storeA (.high n)
  | pop_hl => exact h_pop .hl
  | ldh_atC_a => exact h_storeA .highC
  | push_hl => exact h_push .hl
  | and_n8 n => exact h_alu .and (.imm n)
  | rst_20 => exact h_rst .b4
  | add_sp_e8 n => exact h_addSp n
  | jp_hl => exact h_jpHl
  | ld_atA16_a n => exact h_storeA (.abs n)
  | xor_n8 n => exact h_alu .xor (.imm n)
  | rst_28 => exact h_rst .b5
  | ldh_a_atA8 n => exact h_loadA (.high n)
  | pop_af => exact h_pop .af
  | ldh_a_atC => exact h_loadA .highC
  | di => exact h_di
  | push_af => exact h_push .af
  | or_n8 n => exact h_alu .or (.imm n)
  | rst_30 => exact h_rst .b6
  | ld_hl_sp_e8 n => exact h_ldHlSp n
  | ld_sp_hl => exact h_ldSpHl
  | ld_a_atA16 n => exact h_loadA (.abs n)
  | ei => exact h_ei
  | cp_n8 n => exact h_alu .cp (.imm n)
  | rst_38 => exact h_rst .b7
  | rlc_b => exact h_rot .rlc (.reg .b)
  | rlc_c => exact h_rot .rlc (.reg .c)
  | rlc_d => exact h_rot .rlc (.reg .d)
  | rlc_e => exact h_rot .rlc (.reg .e)
  | rlc_h => exact h_rot .rlc (.reg .h)
  | rlc_l => exact h_rot .rlc (.reg .l)
  | rlc_atHL => exact h_rot .rlc .atHL
  | rlc_a => exact h_rot .rlc (.reg .a)
  | rrc_b => exact h_rot .rrc (.reg .b)
  | rrc_c => exact h_rot .rrc (.reg .c)
  | rrc_d => exact h_rot .rrc (.reg .d)
  | rrc_e => exact h_rot .rrc (.reg .e)
  | rrc_h => exact h_rot .rrc (.reg .h)
  | rrc_l => exact h_rot .rrc (.reg .l)
  | rrc_atHL => exact h_rot .rrc .atHL
  | rrc_a => exact h_rot .rrc (.reg .a)
  | rl_b => exact h_rot .rl (.reg .b)
  | rl_c => exact h_rot .rl (.reg .c)
  | rl_d => exact h_rot .rl (.reg .d)
  | rl_e => exact h_rot .rl (.reg .e)
  | rl_h => exact h_rot .rl (.reg .h)
  | rl_l => exact h_rot .rl (.reg .l)
  | rl_atHL => exact h_rot .rl .atHL
  | rl_a => exact h_rot .rl (.reg .a)
  | rr_b => exact h_rot .rr (.reg .b)
  | rr_c => exact h_rot .rr (.reg .c)
  | rr_d => exact h_rot .rr (.reg .d)
  | rr_e => exact h_rot .rr (.reg .e)
  | rr_h => exact h_rot .rr (.reg .h)
  | rr_l => exact h_rot .rr (.reg .l)
  | rr_atHL => exact h_rot .rr .atHL
  | rr_a => exact h_rot .rr (.reg .a)
  | sla_b => exact h_rot .sla (.reg .b)
  | sla_c => exact h_rot .sla (.reg .c)
  | sla_d => exact h_rot .sla (.reg .d)
  | sla_e => exact h_rot .sla (.reg .e)
  | sla_h => exact h_rot .sla (.reg .h)
  | sla_l => exact h_rot .sla (.reg .l)
  | sla_atHL => exact h_rot .sla .atHL
  | sla_a => exact h_rot .sla (.reg .a)
  | sra_b => exact h_rot .sra (.reg .b)
  | sra_c => exact h_rot .sra (.reg .c)
  | sra_d => exact h_rot .sra (.reg .d)
  | sra_e => exact h_rot .sra (.reg .e)
  | sra_h => exact h_rot .sra (.reg .h)
  | sra_l => exact h_rot .sra (.reg .l)
  | sra_atHL => exact h_rot .sra .atHL
  | sra_a => exact h_rot .sra (.reg .a)
  | swap_b => exact h_rot .swap (.reg .b)
  | swap_c => exact h_rot .swap (.reg .c)
  | swap_d => exact h_rot .swap (.reg .d)
  | swap_e => exact h_rot .swap (.reg .e)
  | swap_h => exact h_rot .swap (.reg .h)
  | swap_l => exact h_rot .swap (.reg .l)
  | swap_atHL => exact h_rot .swap .atHL
  | swap_a => exact h_rot .swap (.reg .a)
  | srl_b => exact h_rot .srl (.reg .b)
  | srl_c => exact h_rot .srl (.reg .c)
  | srl_d => exact h_rot .srl (.reg .d)
  | srl_e => exact h_rot .srl (.reg .e)
  | srl_h => exact h_rot .srl (.reg .h)
  | srl_l => exact h_rot .srl (.reg .l)
  | srl_atHL => exact h_rot .srl .atHL
  | srl_a => exact h_rot .srl (.reg .a)
  | bit_0_b => exact h_bit .b0 (.reg .b)
  | bit_0_c => exact h_bit .b0 (.reg .c)
  | bit_0_d => exact h_bit .b0 (.reg .d)
  | bit_0_e => exact h_bit .b0 (.reg .e)
  | bit_0_h => exact h_bit .b0 (.reg .h)
  | bit_0_l => exact h_bit .b0 (.reg .l)
  | bit_0_atHL => exact h_bit .b0 .atHL
  | bit_0_a => exact h_bit .b0 (.reg .a)
  | bit_1_b => exact h_bit .b1 (.reg .b)
  | bit_1_c => exact h_bit .b1 (.reg .c)
  | bit_1_d => exact h_bit .b1 (.reg .d)
  | bit_1_e => exact h_bit .b1 (.reg .e)
  | bit_1_h => exact h_bit .b1 (.reg .h)
  | bit_1_l => exact h_bit .b1 (.reg .l)
  | bit_1_atHL => exact h_bit .b1 .atHL
  | bit_1_a => exact h_bit .b1 (.reg .a)
  | bit_2_b => exact h_bit .b2 (.reg .b)
  | bit_2_c => exact h_bit .b2 (.reg .c)
  | bit_2_d => exact h_bit .b2 (.reg .d)
  | bit_2_e => exact h_bit .b2 (.reg .e)
  | bit_2_h => exact h_bit .b2 (.reg .h)
  | bit_2_l => exact h_bit .b2 (.reg .l)
  | bit_2_atHL => exact h_bit .b2 .atHL
  | bit_2_a => exact h_bit .b2 (.reg .a)
  | bit_3_b => exact h_bit .b3 (.reg .b)
  | bit_3_c => exact h_bit .b3 (.reg .c)
  | bit_3_d => exact h_bit .b3 (.reg .d)
  | bit_3_e => exact h_bit .b3 (.reg .e)
  | bit_3_h => exact h_bit .b3 (.reg .h)
  | bit_3_l => exact h_bit .b3 (.reg .l)
  | bit_3_atHL => exact h_bit .b3 .atHL
  | bit_3_a => exact h_bit .b3 (.reg .a)
  | bit_4_b => exact h_bit .b4 (.reg .b)
  | bit_4_c => exact h_bit .b4 (.reg .c)
  | bit_4_d => exact h_bit .b4 (.reg .d)
  | bit_4_e => exact h_bit .b4 (.reg .e)
  | bit_4_h => exact h_bit .b4 (.reg .h)
  | bit_4_l => exact h_bit .b4 (.reg .l)
  | bit_4_atHL => exact h_bit .b4 .atHL
  | bit_4_a => exact h_bit .b4 (.reg .a)
  | bit_5_b => exact h_bit .b5 (.reg .b)
  | bit_5_c => exact h_bit .b5 (.reg .c)
  | bit_5_d => exact h_bit .b5 (.reg .d)
  | bit_5_e => exact h_bit .b5 (.reg .e)
  | bit_5_h => exact h_bit .b5 (.reg .h)
  | bit_5_l => exact h_bit .b5 (.reg .l)
  | bit_5_atHL => exact h_bit .b5 .atHL
  | bit_5_a => exact h_bit .b5 (.reg .a)
  | bit_6_b => exact h_bit .b6 (.reg .b)
  | bit_6_c => exact h_bit .b6 (.reg .c)
  | bit_6_d => exact h_bit .b6 (.reg .d)
  | bit_6_e => exact h_bit .b6 (.reg .e)
  | bit_6_h => exact h_bit .b6 (.reg .h)
  | bit_6_l => exact h_bit .b6 (.reg .l)
  | bit_6_atHL => exact h_bit .b6 .atHL
  | bit_6_a => exact h_bit .b6 (.reg .a)
  | bit_7_b => exact h_bit .b7 (.reg .b)
  | bit_7_c => exact h_bit .b7 (.reg .c)
  | bit_7_d => exact h_bit .b7 (.reg .d)
  | bit_7_e => exact h_bit .b7 (.reg .e)
  | bit_7_h => exact h_bit .b7 (.reg .h)
  | bit_7_l => exact h_bit .b7 (.reg .l)
  | bit_7_atHL => exact h_bit .b7 .atHL
  | bit_7_a => exact h_bit .b7 (.reg .a)
  | res_0_b => exact h_res .b0 (.reg .b)
  | res_0_c => exact h_res .b0 (.reg .c)
  | res_0_d => exact h_res .b0 (.reg .d)
  | res_0_e => exact h_res .b0 (.reg .e)
  | res_0_h => exact h_res .b0 (.reg .h)
  | res_0_l => exact h_res .b0 (.reg .l)
  | res_0_atHL => exact h_res .b0 .atHL
  | res_0_a => exact h_res .b0 (.reg .a)
  | res_1_b => exact h_res .b1 (.reg .b)
  | res_1_c => exact h_res .b1 (.reg .c)
  | res_1_d => exact h_res .b1 (.reg .d)
  | res_1_e => exact h_res .b1 (.reg .e)
  | res_1_h => exact h_res .b1 (.reg .h)
  | res_1_l => exact h_res .b1 (.reg .l)
  | res_1_atHL => exact h_res .b1 .atHL
  | res_1_a => exact h_res .b1 (.reg .a)
  | res_2_b => exact h_res .b2 (.reg .b)
  | res_2_c => exact h_res .b2 (.reg .c)
  | res_2_d => exact h_res .b2 (.reg .d)
  | res_2_e => exact h_res .b2 (.reg .e)
  | res_2_h => exact h_res .b2 (.reg .h)
  | res_2_l => exact h_res .b2 (.reg .l)
  | res_2_atHL => exact h_res .b2 .atHL
  | res_2_a => exact h_res .b2 (.reg .a)
  | res_3_b => exact h_res .b3 (.reg .b)
  | res_3_c => exact h_res .b3 (.reg .c)
  | res_3_d => exact h_res .b3 (.reg .d)
  | res_3_e => exact h_res .b3 (.reg .e)
  | res_3_h => exact h_res .b3 (.reg .h)
  | res_3_l => exact h_res .b3 (.reg .l)
  | res_3_atHL => exact h_res .b3 .atHL
  | res_3_a => exact h_res .b3 (.reg .a)
  | res_4_b => exact h_res .b4 (.reg .b)
  | res_4_c => exact h_res .b4 (.reg .c)
  | res_4_d => exact h_res .b4 (.reg .d)
  | res_4_e => exact h_res .b4 (.reg .e)
  | res_4_h => exact h_res .b4 (.reg .h)
  | res_4_l => exact h_res .b4 (.reg .l)
  | res_4_atHL => exact h_res .b4 .atHL
  | res_4_a => exact h_res .b4 (.reg .a)
  | res_5_b => exact h_res .b5 (.reg .b)
  | res_5_c => exact h_res .b5 (.reg .c)
  | res_5_d => exact h_res .b5 (.reg .d)
  | res_5_e => exact h_res .b5 (.reg .e)
  | res_5_h => exact h_res .b5 (.reg .h)
  | res_5_l => exact h_res .b5 (.reg .l)
  | res_5_atHL => exact h_res .b5 .atHL
  | res_5_a => exact h_res .b5 (.reg .a)
  | res_6_b => exact h_res .b6 (.reg .b)
  | res_6_c => exact h_res .b6 (.reg .c)
  | res_6_d => exact h_res .b6 (.reg .d)
  | res_6_e => exact h_res .b6 (.reg .e)
  | res_6_h => exact h_res .b6 (.reg .h)
  | res_6_l => exact h_res .b6 (.reg .l)
  | res_6_atHL => exact h_res .b6 .atHL
  | res_6_a => exact h_res .b6 (.reg .a)
  | res_7_b => exact h_res .b7 (.reg .b)
  | res_7_c => exact h_res .b7 (.reg .c)
  | res_7_d => exact h_res .b7 (.reg .d)
  | res_7_e => exact h_res .b7 (.reg .e)
  | res_7_h => exact h_res .b7 (.reg .h)
  | res_7_l => exact h_res .b7 (.reg .l)
  | res_7_atHL => exact h_res .b7 .atHL
  | res_7_a => exact h_res .b7 (.reg .a)
  | set_0_b => exact h_set .b0 (.reg .b)
  | set_0_c => exact h_set .b0 (.reg .c)
  | set_0_d => exact h_set .b0 (.reg .d)
  | set_0_e => exact h_set .b0 (.reg .e)
  | set_0_h => exact h_set .b0 (.reg .h)
  | set_0_l => exact h_set .b0 (.reg .l)
  | set_0_atHL => exact h_set .b0 .atHL
  | set_0_a => exact h_set .b0 (.reg .a)
  | set_1_b => exact h_set .b1 (.reg .b)
  | set_1_c => exact h_set .b1 (.reg .c)
  | set_1_d => exact h_set .b1 (.reg .d)
  | set_1_e => exact h_set .b1 (.reg .e)
  | set_1_h => exact h_set .b1 (.reg .h)
  | set_1_l => exact h_set .b1 (.reg .l)
  | set_1_atHL => exact h_set .b1 .atHL
  | set_1_a => exact h_set .b1 (.reg .a)
  | set_2_b => exact h_set .b2 (.reg .b)
  | set_2_c => exact h_set .b2 (.reg .c)
  | set_2_d => exact h_set .b2 (.reg .d)
  | set_2_e => exact h_set .b2 (.reg .e)
  | set_2_h => exact h_set .b2 (.reg .h)
  | set_2_l => exact h_set .b2 (.reg .l)
  | set_2_atHL => exact h_set .b2 .atHL
  | set_2_a => exact h_set .b2 (.reg .a)
  | set_3_b => exact h_set .b3 (.reg .b)
  | set_3_c => exact h_set .b3 (.reg .c)
  | set_3_d => exact h_set .b3 (.reg .d)
  | set_3_e => exact h_set .b3 (.reg .e)
  | set_3_h => exact h_set .b3 (.reg .h)
  | set_3_l => exact h_set .b3 (.reg .l)
  | set_3_atHL => exact h_set .b3 .atHL
  | set_3_a => exact h_set .b3 (.reg .a)
  | set_4_b => exact h_set .b4 (.reg .b)
  | set_4_c => exact h_set .b4 (.reg .c)
  | set_4_d => exact h_set .b4 (.reg .d)
  | set_4_e => exact h_set .b4 (.reg .e)
  | set_4_h => exact h_set .b4 (.reg .h)
  | set_4_l => exact h_set .b4 (.reg .l)
  | set_4_atHL => exact h_set .b4 .atHL
  | set_4_a => exact h_set .b4 (.reg .a)
  | set_5_b => exact h_set .b5 (.reg .b)
  | set_5_c => exact h_set .b5 (.reg .c)
  | set_5_d => exact h_set .b5 (.reg .d)
  | set_5_e => exact h_set .b5 (.reg .e)
  | set_5_h => exact h_set .b5 (.reg .h)
  | set_5_l => exact h_set .b5 (.reg .l)
  | set_5_atHL => exact h_set .b5 .atHL
  | set_5_a => exact h_set .b5 (.reg .a)
  | set_6_b => exact h_set .b6 (.reg .b)
  | set_6_c => exact h_set .b6 (.reg .c)
  | set_6_d => exact h_set .b6 (.reg .d)
  | set_6_e => exact h_set .b6 (.reg .e)
  | set_6_h => exact h_set .b6 (.reg .h)
  | set_6_l => exact h_set .b6 (.reg .l)
  | set_6_atHL => exact h_set .b6 .atHL
  | set_6_a => exact h_set .b6 (.reg .a)
  | set_7_b => exact h_set .b7 (.reg .b)
  | set_7_c => exact h_set .b7 (.reg .c)
  | set_7_d => exact h_set .b7 (.reg .d)
  | set_7_e => exact h_set .b7 (.reg .e)
  | set_7_h => exact h_set .b7 (.reg .h)
  | set_7_l => exact h_set .b7 (.reg .l)
  | set_7_atHL => exact h_set .b7 .atHL
  | set_7_a => exact h_set .b7 (.reg .a)

/-! ### What any instruction can change -/

/-- The bus after the stores of a list, in order. -/
def Bus.writeAll (echo : Bool) (b : Bus) (l : List (Word × Byte)) : Bus := l.foldl (fun b x => b.write echo x.1 x.2) b

@[simp] theorem Bus.writeAll_nil (echo : Bool) (b : Bus) : b.writeAll echo [] = b := rfl
@[simp] theorem Bus.writeAll_cons (echo : Bool) (b : Bus) (x : Word × Byte) (l : List (Word × Byte)) :
    b.writeAll echo (x :: l) = (b.write echo x.1 x.2).writeAll echo l := rfl

/-- `t` differs from `s` at most in the CPU core and by the given stores. -/
def Effect (s : State) (l : List (Word × Byte)) (r : Result) : Prop :=
  ∃ c : Cpu, r = .next { s with cpu := c, bus := s.bus.writeAll s.config.echoRam l }

theorem effect_push (s : State) (w : Word) (c : Cpu) :
    Effect s (s.pushStores w) (.next ((s.push16 w).setCpu c)) := by
  refine ⟨c, ?_⟩
  have h : ((s.push16 w).setCpu c) =
      { s with cpu := c, bus := (s.push16 w).bus } := rfl
  rw [h, State.push16_bus]
  rfl

theorem effect_rotLoc (op : RotOp) (x : Loc) (s : State) :
    Effect s (s.locStores x (fun v => (rotExt op v s.cpu.f).1)) (rotLoc op x s) := by cases x <;> exact ⟨_, rfl⟩
theorem effect_bitLoc (b : BitIdx) (x : Loc) (s : State) : Effect s [] (bitLoc b x s) := by
  cases x <;> exact ⟨_, rfl⟩
theorem effect_resLoc (b : BitIdx) (x : Loc) (s : State) :
    Effect s (s.locStores x (resBit b)) (resLoc b x s) := by cases x <;> exact ⟨_, rfl⟩
theorem effect_setLoc (b : BitIdx) (x : Loc) (s : State) :
    Effect s (s.locStores x (setBit b)) (setLoc b x s) := by cases x <;> exact ⟨_, rfl⟩

theorem effect_extendedOp (cbop : Byte) (s : State) : Effect s (s.extendedStores cbop) (extendedOp cbop s) := by
  unfold extendedOp State.extendedStores
  dsimp only
  generalize cbop.toNat / 64 = x
  rcases x with _ | _ | _ | x
  · exact effect_rotLoc _ _ s
  · exact effect_bitLoc _ _ s
  · exact effect_resLoc _ _ s
  · exact effect_setLoc _ _ s

/-- Every instruction answers a next state, which differs from the state before at most in the CPU core and by exactly the
stores of `storesOf`. -/
theorem exec_effect (i : Instr) (s : State) : Effect s (storesOf i s) (exec i s) := by
  revert i
  apply Instr_by_shape
  case h_ldRegReg => intro dst r; cases dst <;> cases r <;> exact ⟨_, rfl⟩
  case h_ldRegImm => intro n dst; cases dst <;> exact ⟨_, rfl⟩
  case h_ldRegMem => intro dst; cases dst <;> exact ⟨_, rfl⟩
  case h_ldMemReg => intro r; cases r <;> exact ⟨_, rfl⟩
  case h_ldMemImm => intro n; exact ⟨_, rfl⟩
  case h_loadA => intro m; cases m <;> exact ⟨_, rfl⟩
  case h_storeA => intro m; cases m <;> exact ⟨_, rfl⟩
  case h_ldPairImm => intro n p; cases p <;> exact ⟨_, rfl⟩
  case h_ldMemSp => intro n; exact ⟨_, rfl⟩
  case h_ldSpHl => exact ⟨_, rfl⟩
  case h_ldHlSp => intro n; exact ⟨_, rfl⟩
  case h_push => intro p; cases p <;> exact effect_push s _ _
  case h_pop => intro p; cases p <;> exact ⟨_, rfl⟩
  case h_alu =>
    intro op x
    have h : storesOf (aluI op x) s = [] := by
      rcases x with r | _ | n
      · cases op <;> cases r <;> rfl
      · cases op <;> rfl
      · cases op <;> rfl
    rw [exec_aluI, h]
    exact ⟨_, rfl⟩
  case h_inc =>
    intro x
    rcases x with r | _
    · cases r <;> exact ⟨_, rfl⟩
    · exact ⟨_, rfl⟩
  case h_dec =>
    intro x
    rcases x with r | _
    · cases r <;> exact ⟨_, rfl⟩
    · exact ⟨_, rfl⟩
  case h_daa => exact ⟨_, rfl⟩
  case h_cpl => exact ⟨_, rfl⟩
  case h_scf => exact ⟨_, rfl⟩
  case h_ccf => exact ⟨_, rfl⟩
  case h_addHl => intro p; cases p <;> exact ⟨_, rfl⟩
  case h_incPair => intro p; cases p <;> exact ⟨_, rfl⟩
  case h_decPair => intro p; cases p <;> exact ⟨_, rfl⟩
  case h_addSp => intro n; exact ⟨_, rfl⟩
  case h_rlca => exact ⟨_, rfl⟩
  case h_rrca => exact ⟨_, rfl⟩
  case h_rla => exact ⟨_, rfl⟩
  case h_rra => exact ⟨_, rfl⟩
  case h_rot =>
    intro op x
    have h : storesOf (rotI op x) s = s.locStores x (fun v => (rotExt op v s.cpu.f).1) := by
      rcases x with r | _
      · cases op <;> cases r <;> rfl
      · cases op <;> rfl
    rw [exec_rotI, h]
    exact effect_rotLoc op x s
  case h_bit =>
    intro op x
    have h : storesOf (bitI op x) s = [] := by
      rcases x with r | _
      · cases op <;> cases r <;> rfl
      · cases op <;> rfl
    rw [exec_bitI, h]
    exact effect_bitLoc op x s
  case h_res =>
    intro op x
    have h : storesOf (resI op x) s = s.locStores x (resBit op) := by
      rcases x with r | _
      · cases op <;> cases r <;> rfl
      · cases op <;> rfl
    rw [exec_resI, h]
    exact effect_resLoc op x s
  case h_set =>
    intro op x
    have h : storesOf (setI op x) s = s.locStores x (setBit op) := by
      rcases x with r | _
      · cases op <;> cases r <;> rfl
      · cases op <;> rfl
    rw [exec_setI, h]
    exact effect_setLoc op x s
  case h_jp => intro n; exact ⟨_, rfl⟩
  case h_jpIf =>
    intro n cc
    rw [exec_jpIfI]
    unfold jumpIf
    cases cc <;> split <;> exact ⟨_, rfl⟩
  case h_jpHl => exact ⟨_, rfl⟩
  case h_jr => intro n; exact ⟨_, rfl⟩
  case h_jrIf =>
    intro n cc
    rw [exec_jrIfI]
    unfold jumpRelIf
    cases cc <;> split <;> exact ⟨_, rfl⟩
  case h_call => intro n; exact effect_push s _ _
  case h_callIf =>
    intro n cc
    have h : storesOf (callIfI n cc) s = if s.cpu.f.holds cc then s.pushStores s.cpu.pc else [] := by cases cc <;> rfl
    rw [exec_callIfI, h]
    unfold callIf
    split
    · exact effect_push s _ _
    · exact ⟨_, rfl⟩
  case h_ret => exact ⟨_, rfl⟩
  case h_retIf =>
    intro cc
    rw [exec_retIfI]
    unfold returnIf
    cases cc <;> split <;> exact ⟨_, rfl⟩
  case h_reti => exact ⟨_, rfl⟩
  case h_rst => intro t; cases t <;> exact effect_push s _ _
  case h_nop => exact ⟨_, rfl⟩
  case h_stop =>
    intro n
    show Effect s [] (stopOp s)
    unfold stopOp
    split <;> exact ⟨_, rfl⟩
  case h_halt => exact ⟨_, rfl⟩
  case h_di => exact ⟨_, rfl⟩
  case h_ei => exact ⟨_, rfl⟩
  case h_illegal => intro n; exact ⟨_, rfl⟩
  case h_prefixCB =>
    show Effect s (if s.implements .extended (s.read s.cpu.pc) then s.extendedStores (s.read s.cpu.pc) else [])
      (if s.implements .extended (s.read s.cpu.pc) then
        extendedOp (s.read s.cpu.pc) (s.setPc (s.cpu.pc + 1)) else .next (s.raiseFatal (s.cpu.pc - 1)))
    split
    · exact effect_extendedOp _ (s.setPc (s.cpu.pc + 1))
    · exact ⟨_, rfl⟩

end Sys2Proof.Machine
end

