-- ==== Sys2Proof/Laws/PerInstr.lean ====
section
/-!
SUPPORT. The family `Length`: the encoding of a well-formed instruction is as long as `lengthOf` says of its first byte
(spec/30_encoding.md R151), one lemma for each constructor.
-/

/-- The encoding of `i` is as long as its first byte says. -/
def Sys2Proof.Laws.Length.Statement (i : Sys2Proof.Instr) : Prop :=
  i.wf = true → (Sys2Proof.encode i).length = Sys2Proof.lengthOf ((Sys2Proof.encode i).headD 0)

namespace Sys2Proof.Laws

/-- The length, from the first byte and the number of bytes. -/
theorem length_of_first {bs : List Byte} {n : Nat} {b : Byte} (h : lengthOf b = n) (hl : bs.length = n)
    (hb : bs.headD 0 = b) : bs.length = lengthOf (bs.headD 0) := by
  rw [hb, h, hl]

theorem Length.ld_bc_n16 (n16 : Word) : Length.Statement (.ld_bc_n16 n16) := fun _ => length_of_first (b := 0x01) rfl rfl rfl
theorem Length.ld_b_n8 (n8 : Byte) : Length.Statement (.ld_b_n8 n8) := fun _ => length_of_first (b := 0x06) rfl rfl rfl
theorem Length.ld_atA16_sp (a16 : Word) : Length.Statement (.ld_atA16_sp a16) := fun _ => length_of_first (b := 0x08) rfl rfl rfl
theorem Length.ld_c_n8 (n8 : Byte) : Length.Statement (.ld_c_n8 n8) := fun _ => length_of_first (b := 0x0E) rfl rfl rfl
theorem Length.stop (ign8 : Byte) : Length.Statement (.stop ign8) := fun _ => length_of_first (b := 0x10) rfl rfl rfl
theorem Length.ld_de_n16 (n16 : Word) : Length.Statement (.ld_de_n16 n16) := fun _ => length_of_first (b := 0x11) rfl rfl rfl
theorem Length.ld_d_n8 (n8 : Byte) : Length.Statement (.ld_d_n8 n8) := fun _ => length_of_first (b := 0x16) rfl rfl rfl
theorem Length.jr_e8 (e8 : Byte) : Length.Statement (.jr_e8 e8) := fun _ => length_of_first (b := 0x18) rfl rfl rfl
theorem Length.ld_e_n8 (n8 : Byte) : Length.Statement (.ld_e_n8 n8) := fun _ => length_of_first (b := 0x1E) rfl rfl rfl
theorem Length.jr_nz_e8 (e8 : Byte) : Length.Statement (.jr_nz_e8 e8) := fun _ => length_of_first (b := 0x20) rfl rfl rfl
theorem Length.ld_hl_n16 (n16 : Word) : Length.Statement (.ld_hl_n16 n16) := fun _ => length_of_first (b := 0x21) rfl rfl rfl
theorem Length.ld_h_n8 (n8 : Byte) : Length.Statement (.ld_h_n8 n8) := fun _ => length_of_first (b := 0x26) rfl rfl rfl
theorem Length.jr_z_e8 (e8 : Byte) : Length.Statement (.jr_z_e8 e8) := fun _ => length_of_first (b := 0x28) rfl rfl rfl
theorem Length.ld_l_n8 (n8 : Byte) : Length.Statement (.ld_l_n8 n8) := fun _ => length_of_first (b := 0x2E) rfl rfl rfl
theorem Length.jr_nc_e8 (e8 : Byte) : Length.Statement (.jr_nc_e8 e8) := fun _ => length_of_first (b := 0x30) rfl rfl rfl
theorem Length.ld_sp_n16 (n16 : Word) : Length.Statement (.ld_sp_n16 n16) := fun _ => length_of_first (b := 0x31) rfl rfl rfl
theorem Length.ld_atHL_n8 (n8 : Byte) : Length.Statement (.ld_atHL_n8 n8) := fun _ => length_of_first (b := 0x36) rfl rfl rfl
theorem Length.jr_c_e8 (e8 : Byte) : Length.Statement (.jr_c_e8 e8) := fun _ => length_of_first (b := 0x38) rfl rfl rfl
theorem Length.ld_a_n8 (n8 : Byte) : Length.Statement (.ld_a_n8 n8) := fun _ => length_of_first (b := 0x3E) rfl rfl rfl
theorem Length.jp_nz_a16 (a16 : Word) : Length.Statement (.jp_nz_a16 a16) := fun _ => length_of_first (b := 0xC2) rfl rfl rfl
theorem Length.jp_a16 (a16 : Word) : Length.Statement (.jp_a16 a16) := fun _ => length_of_first (b := 0xC3) rfl rfl rfl
theorem Length.call_nz_a16 (a16 : Word) : Length.Statement (.call_nz_a16 a16) := fun _ => length_of_first (b := 0xC4) rfl rfl rfl
theorem Length.add_a_n8 (n8 : Byte) : Length.Statement (.add_a_n8 n8) := fun _ => length_of_first (b := 0xC6) rfl rfl rfl
theorem Length.jp_z_a16 (a16 : Word) : Length.Statement (.jp_z_a16 a16) := fun _ => length_of_first (b := 0xCA) rfl rfl rfl
theorem Length.call_z_a16 (a16 : Word) : Length.Statement (.call_z_a16 a16) := fun _ => length_of_first (b := 0xCC) rfl rfl rfl
theorem Length.call_a16 (a16 : Word) : Length.Statement (.call_a16 a16) := fun _ => length_of_first (b := 0xCD) rfl rfl rfl
theorem Length.adc_a_n8 (n8 : Byte) : Length.Statement (.adc_a_n8 n8) := fun _ => length_of_first (b := 0xCE) rfl rfl rfl
theorem Length.jp_nc_a16 (a16 : Word) : Length.Statement (.jp_nc_a16 a16) := fun _ => length_of_first (b := 0xD2) rfl rfl rfl
theorem Length.illegal (op : Byte) : Length.Statement (.illegal op) := by
  intro h
  have key : ∀ b : Byte, illegalOpcodes.contains b = true → 1 = lengthOf b := by decide
  exact key op h
theorem Length.call_nc_a16 (a16 : Word) : Length.Statement (.call_nc_a16 a16) := fun _ => length_of_first (b := 0xD4) rfl rfl rfl
theorem Length.sub_n8 (n8 : Byte) : Length.Statement (.sub_n8 n8) := fun _ => length_of_first (b := 0xD6) rfl rfl rfl
theorem Length.jp_c_a16 (a16 : Word) : Length.Statement (.jp_c_a16 a16) := fun _ => length_of_first (b := 0xDA) rfl rfl rfl
theorem Length.call_c_a16 (a16 : Word) : Length.Statement (.call_c_a16 a16) := fun _ => length_of_first (b := 0xDC) rfl rfl rfl
theorem Length.sbc_a_n8 (n8 : Byte) : Length.Statement (.sbc_a_n8 n8) := fun _ => length_of_first (b := 0xDE) rfl rfl rfl
theorem Length.ldh_atA8_a (a8 : Byte) : Length.Statement (.ldh_atA8_a a8) := fun _ => length_of_first (b := 0xE0) rfl rfl rfl
theorem Length.and_n8 (n8 : Byte) : Length.Statement (.and_n8 n8) := fun _ => length_of_first (b := 0xE6) rfl rfl rfl
theorem Length.add_sp_e8 (e8 : Byte) : Length.Statement (.add_sp_e8 e8) := fun _ => length_of_first (b := 0xE8) rfl rfl rfl
theorem Length.ld_atA16_a (a16 : Word) : Length.Statement (.ld_atA16_a a16) := fun _ => length_of_first (b := 0xEA) rfl rfl rfl
theorem Length.xor_n8 (n8 : Byte) : Length.Statement (.xor_n8 n8) := fun _ => length_of_first (b := 0xEE) rfl rfl rfl
theorem Length.ldh_a_atA8 (a8 : Byte) : Length.Statement (.ldh_a_atA8 a8) := fun _ => length_of_first (b := 0xF0) rfl rfl rfl
theorem Length.or_n8 (n8 : Byte) : Length.Statement (.or_n8 n8) := fun _ => length_of_first (b := 0xF6) rfl rfl rfl
theorem Length.ld_hl_sp_e8 (e8 : Byte) : Length.Statement (.ld_hl_sp_e8 e8) := fun _ => length_of_first (b := 0xF8) rfl rfl rfl
theorem Length.ld_a_atA16 (a16 : Word) : Length.Statement (.ld_a_atA16 a16) := fun _ => length_of_first (b := 0xFA) rfl rfl rfl
theorem Length.cp_n8 (n8 : Byte) : Length.Statement (.cp_n8 n8) := fun _ => length_of_first (b := 0xFE) rfl rfl rfl
theorem Length.nop : Length.Statement .nop := fun _ => rfl
theorem Length.ld_atBC_a : Length.Statement .ld_atBC_a := fun _ => rfl
theorem Length.inc_bc : Length.Statement .inc_bc := fun _ => rfl
theorem Length.inc_b : Length.Statement .inc_b := fun _ => rfl
theorem Length.dec_b : Length.Statement .dec_b := fun _ => rfl
theorem Length.rlca : Length.Statement .rlca := fun _ => rfl
theorem Length.add_hl_bc : Length.Statement .add_hl_bc := fun _ => rfl
theorem Length.ld_a_atBC : Length.Statement .ld_a_atBC := fun _ => rfl
theorem Length.dec_bc : Length.Statement .dec_bc := fun _ => rfl
theorem Length.inc_c : Length.Statement .inc_c := fun _ => rfl
theorem Length.dec_c : Length.Statement .dec_c := fun _ => rfl
theorem Length.rrca : Length.Statement .rrca := fun _ => rfl
theorem Length.ld_atDE_a : Length.Statement .ld_atDE_a := fun _ => rfl
theorem Length.inc_de : Length.Statement .inc_de := fun _ => rfl
theorem Length.inc_d : Length.Statement .inc_d := fun _ => rfl
theorem Length.dec_d : Length.Statement .dec_d := fun _ => rfl
theorem Length.rla : Length.Statement .rla := fun _ => rfl
theorem Length.add_hl_de : Length.Statement .add_hl_de := fun _ => rfl
theorem Length.ld_a_atDE : Length.Statement .ld_a_atDE := fun _ => rfl
theorem Length.dec_de : Length.Statement .dec_de := fun _ => rfl
theorem Length.inc_e : Length.Statement .inc_e := fun _ => rfl
theorem Length.dec_e : Length.Statement .dec_e := fun _ => rfl
theorem Length.rra : Length.Statement .rra := fun _ => rfl
theorem Length.ld_atHLI_a : Length.Statement .ld_atHLI_a := fun _ => rfl
theorem Length.inc_hl : Length.Statement .inc_hl := fun _ => rfl
theorem Length.inc_h : Length.Statement .inc_h := fun _ => rfl
theorem Length.dec_h : Length.Statement .dec_h := fun _ => rfl
theorem Length.daa : Length.Statement .daa := fun _ => rfl
theorem Length.add_hl_hl : Length.Statement .add_hl_hl := fun _ => rfl
theorem Length.ld_a_atHLI : Length.Statement .ld_a_atHLI := fun _ => rfl
theorem Length.dec_hl : Length.Statement .dec_hl := fun _ => rfl
theorem Length.inc_l : Length.Statement .inc_l := fun _ => rfl
theorem Length.dec_l : Length.Statement .dec_l := fun _ => rfl
theorem Length.cpl : Length.Statement .cpl := fun _ => rfl
theorem Length.ld_atHLD_a : Length.Statement .ld_atHLD_a := fun _ => rfl
theorem Length.inc_sp : Length.Statement .inc_sp := fun _ => rfl
theorem Length.inc_atHL : Length.Statement .inc_atHL := fun _ => rfl
theorem Length.dec_atHL : Length.Statement .dec_atHL := fun _ => rfl
theorem Length.scf : Length.Statement .scf := fun _ => rfl
theorem Length.add_hl_sp : Length.Statement .add_hl_sp := fun _ => rfl
theorem Length.ld_a_atHLD : Length.Statement .ld_a_atHLD := fun _ => rfl
theorem Length.dec_sp : Length.Statement .dec_sp := fun _ => rfl
theorem Length.inc_a : Length.Statement .inc_a := fun _ => rfl
theorem Length.dec_a : Length.Statement .dec_a := fun _ => rfl
theorem Length.ccf : Length.Statement .ccf := fun _ => rfl
theorem Length.ld_b_b : Length.Statement .ld_b_b := fun _ => rfl
theorem Length.ld_b_c : Length.Statement .ld_b_c := fun _ => rfl
theorem Length.ld_b_d : Length.Statement .ld_b_d := fun _ => rfl
theorem Length.ld_b_e : Length.Statement .ld_b_e := fun _ => rfl
theorem Length.ld_b_h : Length.Statement .ld_b_h := fun _ => rfl
theorem Length.ld_b_l : Length.Statement .ld_b_l := fun _ => rfl
theorem Length.ld_b_atHL : Length.Statement .ld_b_atHL := fun _ => rfl
theorem Length.ld_b_a : Length.Statement .ld_b_a := fun _ => rfl
theorem Length.ld_c_b : Length.Statement .ld_c_b := fun _ => rfl
theorem Length.ld_c_c : Length.Statement .ld_c_c := fun _ => rfl
theorem Length.ld_c_d : Length.Statement .ld_c_d := fun _ => rfl
theorem Length.ld_c_e : Length.Statement .ld_c_e := fun _ => rfl
theorem Length.ld_c_h : Length.Statement .ld_c_h := fun _ => rfl
theorem Length.ld_c_l : Length.Statement .ld_c_l := fun _ => rfl
theorem Length.ld_c_atHL : Length.Statement .ld_c_atHL := fun _ => rfl
theorem Length.ld_c_a : Length.Statement .ld_c_a := fun _ => rfl
theorem Length.ld_d_b : Length.Statement .ld_d_b := fun _ => rfl
theorem Length.ld_d_c : Length.Statement .ld_d_c := fun _ => rfl
theorem Length.ld_d_d : Length.Statement .ld_d_d := fun _ => rfl
theorem Length.ld_d_e : Length.Statement .ld_d_e := fun _ => rfl
theorem Length.ld_d_h : Length.Statement .ld_d_h := fun _ => rfl
theorem Length.ld_d_l : Length.Statement .ld_d_l := fun _ => rfl
theorem Length.ld_d_atHL : Length.Statement .ld_d_atHL := fun _ => rfl
theorem Length.ld_d_a : Length.Statement .ld_d_a := fun _ => rfl
theorem Length.ld_e_b : Length.Statement .ld_e_b := fun _ => rfl
theorem Length.ld_e_c : Length.Statement .ld_e_c := fun _ => rfl
theorem Length.ld_e_d : Length.Statement .ld_e_d := fun _ => rfl
theorem Length.ld_e_e : Length.Statement .ld_e_e := fun _ => rfl
theorem Length.ld_e_h : Length.Statement .ld_e_h := fun _ => rfl
theorem Length.ld_e_l : Length.Statement .ld_e_l := fun _ => rfl
theorem Length.ld_e_atHL : Length.Statement .ld_e_atHL := fun _ => rfl
theorem Length.ld_e_a : Length.Statement .ld_e_a := fun _ => rfl
theorem Length.ld_h_b : Length.Statement .ld_h_b := fun _ => rfl
theorem Length.ld_h_c : Length.Statement .ld_h_c := fun _ => rfl
theorem Length.ld_h_d : Length.Statement .ld_h_d := fun _ => rfl
theorem Length.ld_h_e : Length.Statement .ld_h_e := fun _ => rfl
theorem Length.ld_h_h : Length.Statement .ld_h_h := fun _ => rfl
theorem Length.ld_h_l : Length.Statement .ld_h_l := fun _ => rfl
theorem Length.ld_h_atHL : Length.Statement .ld_h_atHL := fun _ => rfl
theorem Length.ld_h_a : Length.Statement .ld_h_a := fun _ => rfl
theorem Length.ld_l_b : Length.Statement .ld_l_b := fun _ => rfl
theorem Length.ld_l_c : Length.Statement .ld_l_c := fun _ => rfl
theorem Length.ld_l_d : Length.Statement .ld_l_d := fun _ => rfl
theorem Length.ld_l_e : Length.Statement .ld_l_e := fun _ => rfl
theorem Length.ld_l_h : Length.Statement .ld_l_h := fun _ => rfl
theorem Length.ld_l_l : Length.Statement .ld_l_l := fun _ => rfl
theorem Length.ld_l_atHL : Length.Statement .ld_l_atHL := fun _ => rfl
theorem Length.ld_l_a : Length.Statement .ld_l_a := fun _ => rfl
theorem Length.ld_atHL_b : Length.Statement .ld_atHL_b := fun _ => rfl
theorem Length.ld_atHL_c : Length.Statement .ld_atHL_c := fun _ => rfl
theorem Length.ld_atHL_d : Length.Statement .ld_atHL_d := fun _ => rfl
theorem Length.ld_atHL_e : Length.Statement .ld_atHL_e := fun _ => rfl
theorem Length.ld_atHL_h : Length.Statement .ld_atHL_h := fun _ => rfl
theorem Length.ld_atHL_l : Length.Statement .ld_atHL_l := fun _ => rfl
theorem Length.halt : Length.Statement .halt := fun _ => rfl
theorem Length.ld_atHL_a : Length.Statement .ld_atHL_a := fun _ => rfl
theorem Length.ld_a_b : Length.Statement .ld_a_b := fun _ => rfl
theorem Length.ld_a_c : Length.Statement .ld_a_c := fun _ => rfl
theorem Length.ld_a_d : Length.Statement .ld_a_d := fun _ => rfl
theorem Length.ld_a_e : Length.Statement .ld_a_e := fun _ => rfl
theorem Length.ld_a_h : Length.Statement .ld_a_h := fun _ => rfl
theorem Length.ld_a_l : Length.Statement .ld_a_l := fun _ => rfl
theorem Length.ld_a_atHL : Length.Statement .ld_a_atHL := fun _ => rfl
theorem Length.ld_a_a : Length.Statement .ld_a_a := fun _ => rfl
theorem Length.add_a_b : Length.Statement .add_a_b := fun _ => rfl
theorem Length.add_a_c : Length.Statement .add_a_c := fun _ => rfl
theorem Length.add_a_d : Length.Statement .add_a_d := fun _ => rfl
theorem Length.add_a_e : Length.Statement .add_a_e := fun _ => rfl
theorem Length.add_a_h : Length.Statement .add_a_h := fun _ => rfl
theorem Length.add_a_l : Length.Statement .add_a_l := fun _ => rfl
theorem Length.add_a_atHL : Length.Statement .add_a_atHL := fun _ => rfl
theorem Length.add_a_a : Length.Statement .add_a_a := fun _ => rfl
theorem Length.adc_a_b : Length.Statement .adc_a_b := fun _ => rfl
theorem Length.adc_a_c : Length.Statement .adc_a_c := fun _ => rfl
theorem Length.adc_a_d : Length.Statement .adc_a_d := fun _ => rfl
theorem Length.adc_a_e : Length.Statement .adc_a_e := fun _ => rfl
theorem Length.adc_a_h : Length.Statement .adc_a_h := fun _ => rfl
theorem Length.adc_a_l : Length.Statement .adc_a_l := fun _ => rfl
theorem Length.adc_a_atHL : Length.Statement .adc_a_atHL := fun _ => rfl
theorem Length.adc_a_a : Length.Statement .adc_a_a := fun _ => rfl
theorem Length.sub_b : Length.Statement .sub_b := fun _ => rfl
theorem Length.sub_c : Length.Statement .sub_c := fun _ => rfl
theorem Length.sub_d : Length.Statement .sub_d := fun _ => rfl
theorem Length.sub_e : Length.Statement .sub_e := fun _ => rfl
theorem Length.sub_h : Length.Statement .sub_h := fun _ => rfl
theorem Length.sub_l : Length.Statement .sub_l := fun _ => rfl
theorem Length.sub_atHL : Length.Statement .sub_atHL := fun _ => rfl
theorem Length.sub_a : Length.Statement .sub_a := fun _ => rfl
theorem Length.sbc_a_b : Length.Statement .sbc_a_b := fun _ => rfl
theorem Length.sbc_a_c : Length.Statement .sbc_a_c := fun _ => rfl
theorem Length.sbc_a_d : Length.Statement .sbc_a_d := fun _ => rfl
theorem Length.sbc_a_e : Length.Statement .sbc_a_e := fun _ => rfl
theorem Length.sbc_a_h : Length.Statement .sbc_a_h := fun _ => rfl
theorem Length.sbc_a_l : Length.Statement .sbc_a_l := fun _ => rfl
theorem Length.sbc_a_atHL : Length.Statement .sbc_a_atHL := fun _ => rfl
theorem Length.sbc_a_a : Length.Statement .sbc_a_a := fun _ => rfl
theorem Length.and_b : Length.Statement .and_b := fun _ => rfl
theorem Length.and_c : Length.Statement .and_c := fun _ => rfl
theorem Length.and_d : Length.Statement .and_d := fun _ => rfl
theorem Length.and_e : Length.Statement .and_e := fun _ => rfl
theorem Length.and_h : Length.Statement .and_h := fun _ => rfl
theorem Length.and_l : Length.Statement .and_l := fun _ => rfl
theorem Length.and_atHL : Length.Statement .and_atHL := fun _ => rfl
theorem Length.and_a : Length.Statement .and_a := fun _ => rfl
theorem Length.xor_b : Length.Statement .xor_b := fun _ => rfl
theorem Length.xor_c : Length.Statement .xor_c := fun _ => rfl
theorem Length.xor_d : Length.Statement .xor_d := fun _ => rfl
theorem Length.xor_e : Length.Statement .xor_e := fun _ => rfl
theorem Length.xor_h : Length.Statement .xor_h := fun _ => rfl
theorem Length.xor_l : Length.Statement .xor_l := fun _ => rfl
theorem Length.xor_atHL : Length.Statement .xor_atHL := fun _ => rfl
theorem Length.xor_a : Length.Statement .xor_a := fun _ => rfl
theorem Length.or_b : Length.Statement .or_b := fun _ => rfl
theorem Length.or_c : Length.Statement .or_c := fun _ => rfl
theorem Length.or_d : Length.Statement .or_d := fun _ => rfl
theorem Length.or_e : Length.Statement .or_e := fun _ => rfl
theorem Length.or_h : Length.Statement .or_h := fun _ => rfl
theorem Length.or_l : Length.Statement .or_l := fun _ => rfl
theorem Length.or_atHL : Length.Statement .or_atHL := fun _ => rfl
theorem Length.or_a : Length.Statement .or_a := fun _ => rfl
theorem Length.cp_b : Length.Statement .cp_b := fun _ => rfl
theorem Length.cp_c : Length.Statement .cp_c := fun _ => rfl
theorem Length.cp_d : Length.Statement .cp_d := fun _ => rfl
theorem Length.cp_e : Length.Statement .cp_e := fun _ => rfl
theorem Length.cp_h : Length.Statement .cp_h := fun _ => rfl
theorem Length.cp_l : Length.Statement .cp_l := fun _ => rfl
theorem Length.cp_atHL : Length.Statement .cp_atHL := fun _ => rfl
theorem Length.cp_a : Length.Statement .cp_a := fun _ => rfl
theorem Length.ret_nz : Length.Statement .ret_nz := fun _ => rfl
theorem Length.pop_bc : Length.Statement .pop_bc := fun _ => rfl
theorem Length.push_bc : Length.Statement .push_bc := fun _ => rfl
theorem Length.rst_00 : Length.Statement .rst_00 := fun _ => rfl
theorem Length.ret_z : Length.Statement .ret_z := fun _ => rfl
theorem Length.ret : Length.Statement .ret := fun _ => rfl
theorem Length.prefixCB : Length.Statement .prefixCB := fun h => nomatch h
theorem Length.rst_08 : Length.Statement .rst_08 := fun _ => rfl
theorem Length.ret_nc : Length.Statement .ret_nc := fun _ => rfl
theorem Length.pop_de : Length.Statement .pop_de := fun _ => rfl
theorem Length.push_de : Length.Statement .push_de := fun _ => rfl
theorem Length.rst_10 : Length.Statement .rst_10 := fun _ => rfl
theorem Length.ret_c : Length.Statement .ret_c := fun _ => rfl
theorem Length.reti : Length.Statement .reti := fun _ => rfl
theorem Length.rst_18 : Length.Statement .rst_18 := fun _ => rfl
theorem Length.pop_hl : Length.Statement .pop_hl := fun _ => rfl
theorem Length.ldh_atC_a : Length.Statement .ldh_atC_a := fun _ => rfl
theorem Length.push_hl : Length.Statement .push_hl := fun _ => rfl
theorem Length.rst_20 : Length.Statement .rst_20 := fun _ => rfl
theorem Length.jp_hl : Length.Statement .jp_hl := fun _ => rfl
theorem Length.rst_28 : Length.Statement .rst_28 := fun _ => rfl
theorem Length.pop_af : Length.Statement .pop_af := fun _ => rfl
theorem Length.ldh_a_atC : Length.Statement .ldh_a_atC := fun _ => rfl
theorem Length.di : Length.Statement .di := fun _ => rfl
theorem Length.push_af : Length.Statement .push_af := fun _ => rfl
theorem Length.rst_30 : Length.Statement .rst_30 := fun _ => rfl
theorem Length.ld_sp_hl : Length.Statement .ld_sp_hl := fun _ => rfl
theorem Length.ei : Length.Statement .ei := fun _ => rfl
theorem Length.rst_38 : Length.Statement .rst_38 := fun _ => rfl
theorem Length.rlc_b : Length.Statement .rlc_b := fun _ => rfl
theorem Length.rlc_c : Length.Statement .rlc_c := fun _ => rfl
theorem Length.rlc_d : Length.Statement .rlc_d := fun _ => rfl
theorem Length.rlc_e : Length.Statement .rlc_e := fun _ => rfl
theorem Length.rlc_h : Length.Statement .rlc_h := fun _ => rfl
theorem Length.rlc_l : Length.Statement .rlc_l := fun _ => rfl
theorem Length.rlc_atHL : Length.Statement .rlc_atHL := fun _ => rfl
theorem Length.rlc_a : Length.Statement .rlc_a := fun _ => rfl
theorem Length.rrc_b : Length.Statement .rrc_b := fun _ => rfl
theorem Length.rrc_c : Length.Statement .rrc_c := fun _ => rfl
theorem Length.rrc_d : Length.Statement .rrc_d := fun _ => rfl
theorem Length.rrc_e : Length.Statement .rrc_e := fun _ => rfl
theorem Length.rrc_h : Length.Statement .rrc_h := fun _ => rfl
theorem Length.rrc_l : Length.Statement .rrc_l := fun _ => rfl
theorem Length.rrc_atHL : Length.Statement .rrc_atHL := fun _ => rfl
theorem Length.rrc_a : Length.Statement .rrc_a := fun _ => rfl
theorem Length.rl_b : Length.Statement .rl_b := fun _ => rfl
theorem Length.rl_c : Length.Statement .rl_c := fun _ => rfl
theorem Length.rl_d : Length.Statement .rl_d := fun _ => rfl
theorem Length.rl_e : Length.Statement .rl_e := fun _ => rfl
theorem Length.rl_h : Length.Statement .rl_h := fun _ => rfl
theorem Length.rl_l : Length.Statement .rl_l := fun _ => rfl
theorem Length.rl_atHL : Length.Statement .rl_atHL := fun _ => rfl
theorem Length.rl_a : Length.Statement .rl_a := fun _ => rfl
theorem Length.rr_b : Length.Statement .rr_b := fun _ => rfl
theorem Length.rr_c : Length.Statement .rr_c := fun _ => rfl
theorem Length.rr_d : Length.Statement .rr_d := fun _ => rfl
theorem Length.rr_e : Length.Statement .rr_e := fun _ => rfl
theorem Length.rr_h : Length.Statement .rr_h := fun _ => rfl
theorem Length.rr_l : Length.Statement .rr_l := fun _ => rfl
theorem Length.rr_atHL : Length.Statement .rr_atHL := fun _ => rfl
theorem Length.rr_a : Length.Statement .rr_a := fun _ => rfl
theorem Length.sla_b : Length.Statement .sla_b := fun _ => rfl
theorem Length.sla_c : Length.Statement .sla_c := fun _ => rfl
theorem Length.sla_d : Length.Statement .sla_d := fun _ => rfl
theorem Length.sla_e : Length.Statement .sla_e := fun _ => rfl
theorem Length.sla_h : Length.Statement .sla_h := fun _ => rfl
theorem Length.sla_l : Length.Statement .sla_l := fun _ => rfl
theorem Length.sla_atHL : Length.Statement .sla_atHL := fun _ => rfl
theorem Length.sla_a : Length.Statement .sla_a := fun _ => rfl
theorem Length.sra_b : Length.Statement .sra_b := fun _ => rfl
theorem Length.sra_c : Length.Statement .sra_c := fun _ => rfl
theorem Length.sra_d : Length.Statement .sra_d := fun _ => rfl
theorem Length.sra_e : Length.Statement .sra_e := fun _ => rfl
theorem Length.sra_h : Length.Statement .sra_h := fun _ => rfl
theorem Length.sra_l : Length.Statement .sra_l := fun _ => rfl
theorem Length.sra_atHL : Length.Statement .sra_atHL := fun _ => rfl
theorem Length.sra_a : Length.Statement .sra_a := fun _ => rfl
theorem Length.swap_b : Length.Statement .swap_b := fun _ => rfl
theorem Length.swap_c : Length.Statement .swap_c := fun _ => rfl
theorem Length.swap_d : Length.Statement .swap_d := fun _ => rfl
theorem Length.swap_e : Length.Statement .swap_e := fun _ => rfl
theorem Length.swap_h : Length.Statement .swap_h := fun _ => rfl
theorem Length.swap_l : Length.Statement .swap_l := fun _ => rfl
theorem Length.swap_atHL : Length.Statement .swap_atHL := fun _ => rfl
theorem Length.swap_a : Length.Statement .swap_a := fun _ => rfl
theorem Length.srl_b : Length.Statement .srl_b := fun _ => rfl
theorem Length.srl_c : Length.Statement .srl_c := fun _ => rfl
theorem Length.srl_d : Length.Statement .srl_d := fun _ => rfl
theorem Length.srl_e : Length.Statement .srl_e := fun _ => rfl
theorem Length.srl_h : Length.Statement .srl_h := fun _ => rfl
theorem Length.srl_l : Length.Statement .srl_l := fun _ => rfl
theorem Length.srl_atHL : Length.Statement .srl_atHL := fun _ => rfl
theorem Length.srl_a : Length.Statement .srl_a := fun _ => rfl
theorem Length.bit_0_b : Length.Statement .bit_0_b := fun _ => rfl
theorem Length.bit_0_c : Length.Statement .bit_0_c := fun _ => rfl
theorem Length.bit_0_d : Length.Statement .bit_0_d := fun _ => rfl
theorem Length.bit_0_e : Length.Statement .bit_0_e := fun _ => rfl
theorem Length.bit_0_h : Length.Statement .bit_0_h := fun _ => rfl
theorem Length.bit_0_l : Length.Statement .bit_0_l := fun _ => rfl
theorem Length.bit_0_atHL : Length.Statement .bit_0_atHL := fun _ => rfl
theorem Length.bit_0_a : Length.Statement .bit_0_a := fun _ => rfl
theorem Length.bit_1_b : Length.Statement .bit_1_b := fun _ => rfl
theorem Length.bit_1_c : Length.Statement .bit_1_c := fun _ => rfl
theorem Length.bit_1_d : Length.Statement .bit_1_d := fun _ => rfl
theorem Length.bit_1_e : Length.Statement .bit_1_e := fun _ => rfl
theorem Length.bit_1_h : Length.Statement .bit_1_h := fun _ => rfl
theorem Length.bit_1_l : Length.Statement .bit_1_l := fun _ => rfl
theorem Length.bit_1_atHL : Length.Statement .bit_1_atHL := fun _ => rfl
theorem Length.bit_1_a : Length.Statement .bit_1_a := fun _ => rfl
theorem Length.bit_2_b : Length.Statement .bit_2_b := fun _ => rfl
theorem Length.bit_2_c : Length.Statement .bit_2_c := fun _ => rfl
theorem Length.bit_2_d : Length.Statement .bit_2_d := fun _ => rfl
theorem Length.bit_2_e : Length.Statement .bit_2_e := fun _ => rfl
theorem Length.bit_2_h : Length.Statement .bit_2_h := fun _ => rfl
theorem Length.bit_2_l : Length.Statement .bit_2_l := fun _ => rfl
theorem Length.bit_2_atHL : Length.Statement .bit_2_atHL := fun _ => rfl
theorem Length.bit_2_a : Length.Statement .bit_2_a := fun _ => rfl
theorem Length.bit_3_b : Length.Statement .bit_3_b := fun _ => rfl
theorem Length.bit_3_c : Length.Statement .bit_3_c := fun _ => rfl
theorem Length.bit_3_d : Length.Statement .bit_3_d := fun _ => rfl
theorem Length.bit_3_e : Length.Statement .bit_3_e := fun _ => rfl
theorem Length.bit_3_h : Length.Statement .bit_3_h := fun _ => rfl
theorem Length.bit_3_l : Length.Statement .bit_3_l := fun _ => rfl
theorem Length.bit_3_atHL : Length.Statement .bit_3_atHL := fun _ => rfl
theorem Length.bit_3_a : Length.Statement .bit_3_a := fun _ => rfl
theorem Length.bit_4_b : Length.Statement .bit_4_b := fun _ => rfl
theorem Length.bit_4_c : Length.Statement .bit_4_c := fun _ => rfl
theorem Length.bit_4_d : Length.Statement .bit_4_d := fun _ => rfl
theorem Length.bit_4_e : Length.Statement .bit_4_e := fun _ => rfl
theorem Length.bit_4_h : Length.Statement .bit_4_h := fun _ => rfl
theorem Length.bit_4_l : Length.Statement .bit_4_l := fun _ => rfl
theorem Length.bit_4_atHL : Length.Statement .bit_4_atHL := fun _ => rfl
theorem Length.bit_4_a : Length.Statement .bit_4_a := fun _ => rfl
theorem Length.bit_5_b : Length.Statement .bit_5_b := fun _ => rfl
theorem Length.bit_5_c : Length.Statement .bit_5_c := fun _ => rfl
theorem Length.bit_5_d : Length.Statement .bit_5_d := fun _ => rfl
theorem Length.bit_5_e : Length.Statement .bit_5_e := fun _ => rfl
theorem Length.bit_5_h : Length.Statement .bit_5_h := fun _ => rfl
theorem Length.bit_5_l : Length.Statement .bit_5_l := fun _ => rfl
theorem Length.bit_5_atHL : Length.Statement .bit_5_atHL := fun _ => rfl
theorem Length.bit_5_a : Length.Statement .bit_5_a := fun _ => rfl
theorem Length.bit_6_b : Length.Statement .bit_6_b := fun _ => rfl
theorem Length.bit_6_c : Length.Statement .bit_6_c := fun _ => rfl
theorem Length.bit_6_d : Length.Statement .bit_6_d := fun _ => rfl
theorem Length.bit_6_e : Length.Statement .bit_6_e := fun _ => rfl
theorem Length.bit_6_h : Length.Statement .bit_6_h := fun _ => rfl
theorem Length.bit_6_l : Length.Statement .bit_6_l := fun _ => rfl
theorem Length.bit_6_atHL : Length.Statement .bit_6_atHL := fun _ => rfl
theorem Length.bit_6_a : Length.Statement .bit_6_a := fun _ => rfl
theorem Length.bit_7_b : Length.Statement .bit_7_b := fun _ => rfl
theorem Length.bit_7_c : Length.Statement .bit_7_c := fun _ => rfl
theorem Length.bit_7_d : Length.Statement .bit_7_d := fun _ => rfl
theorem Length.bit_7_e : Length.Statement .bit_7_e := fun _ => rfl
theorem Length.bit_7_h : Length.Statement .bit_7_h := fun _ => rfl
theorem Length.bit_7_l : Length.Statement .bit_7_l := fun _ => rfl
theorem Length.bit_7_atHL : Length.Statement .bit_7_atHL := fun _ => rfl
theorem Length.bit_7_a : Length.Statement .bit_7_a := fun _ => rfl
theorem Length.res_0_b : Length.Statement .res_0_b := fun _ => rfl
theorem Length.res_0_c : Length.Statement .res_0_c := fun _ => rfl
theorem Length.res_0_d : Length.Statement .res_0_d := fun _ => rfl
theorem Length.res_0_e : Length.Statement .res_0_e := fun _ => rfl
theorem Length.res_0_h : Length.Statement .res_0_h := fun _ => rfl
theorem Length.res_0_l : Length.Statement .res_0_l := fun _ => rfl
theorem Length.res_0_atHL : Length.Statement .res_0_atHL := fun _ => rfl
theorem Length.res_0_a : Length.Statement .res_0_a := fun _ => rfl
theorem Length.res_1_b : Length.Statement .res_1_b := fun _ => rfl
theorem Length.res_1_c : Length.Statement .res_1_c := fun _ => rfl
theorem Length.res_1_d : Length.Statement .res_1_d := fun _ => rfl
theorem Length.res_1_e : Length.Statement .res_1_e := fun _ => rfl
theorem Length.res_1_h : Length.Statement .res_1_h := fun _ => rfl
theorem Length.res_1_l : Length.Statement .res_1_l := fun _ => rfl
theorem Length.res_1_atHL : Length.Statement .res_1_atHL := fun _ => rfl
theorem Length.res_1_a : Length.Statement .res_1_a := fun _ => rfl
theorem Length.res_2_b : Length.Statement .res_2_b := fun _ => rfl
theorem Length.res_2_c : Length.Statement .res_2_c := fun _ => rfl
theorem Length.res_2_d : Length.Statement .res_2_d := fun _ => rfl
theorem Length.res_2_e : Length.Statement .res_2_e := fun _ => rfl
theorem Length.res_2_h : Length.Statement .res_2_h := fun _ => rfl
theorem Length.res_2_l : Length.Statement .res_2_l := fun _ => rfl
theorem Length.res_2_atHL : Length.Statement .res_2_atHL := fun _ => rfl
theorem Length.res_2_a : Length.Statement .res_2_a := fun _ => rfl
theorem Length.res_3_b : Length.Statement .res_3_b := fun _ => rfl
theorem Length.res_3_c : Length.Statement .res_3_c := fun _ => rfl
theorem Length.res_3_d : Length.Statement .res_3_d := fun _ => rfl
theorem Length.res_3_e : Length.Statement .res_3_e := fun _ => rfl
theorem Length.res_3_h : Length.Statement .res_3_h := fun _ => rfl
theorem Length.res_3_l : Length.Statement .res_3_l := fun _ => rfl
theorem Length.res_3_atHL : Length.Statement .res_3_atHL := fun _ => rfl
theorem Length.res_3_a : Length.Statement .res_3_a := fun _ => rfl
theorem Length.res_4_b : Length.Statement .res_4_b := fun _ => rfl
theorem Length.res_4_c : Length.Statement .res_4_c := fun _ => rfl
theorem Length.res_4_d : Length.Statement .res_4_d := fun _ => rfl
theorem Length.res_4_e : Length.Statement .res_4_e := fun _ => rfl
theorem Length.res_4_h : Length.Statement .res_4_h := fun _ => rfl
theorem Length.res_4_l : Length.Statement .res_4_l := fun _ => rfl
theorem Length.res_4_atHL : Length.Statement .res_4_atHL := fun _ => rfl
theorem Length.res_4_a : Length.Statement .res_4_a := fun _ => rfl
theorem Length.res_5_b : Length.Statement .res_5_b := fun _ => rfl
theorem Length.res_5_c : Length.Statement .res_5_c := fun _ => rfl
theorem Length.res_5_d : Length.Statement .res_5_d := fun _ => rfl
theorem Length.res_5_e : Length.Statement .res_5_e := fun _ => rfl
theorem Length.res_5_h : Length.Statement .res_5_h := fun _ => rfl
theorem Length.res_5_l : Length.Statement .res_5_l := fun _ => rfl
theorem Length.res_5_atHL : Length.Statement .res_5_atHL := fun _ => rfl
theorem Length.res_5_a : Length.Statement .res_5_a := fun _ => rfl
theorem Length.res_6_b : Length.Statement .res_6_b := fun _ => rfl
theorem Length.res_6_c : Length.Statement .res_6_c := fun _ => rfl
theorem Length.res_6_d : Length.Statement .res_6_d := fun _ => rfl
theorem Length.res_6_e : Length.Statement .res_6_e := fun _ => rfl
theorem Length.res_6_h : Length.Statement .res_6_h := fun _ => rfl
theorem Length.res_6_l : Length.Statement .res_6_l := fun _ => rfl
theorem Length.res_6_atHL : Length.Statement .res_6_atHL := fun _ => rfl
theorem Length.res_6_a : Length.Statement .res_6_a := fun _ => rfl
theorem Length.res_7_b : Length.Statement .res_7_b := fun _ => rfl
theorem Length.res_7_c : Length.Statement .res_7_c := fun _ => rfl
theorem Length.res_7_d : Length.Statement .res_7_d := fun _ => rfl
theorem Length.res_7_e : Length.Statement .res_7_e := fun _ => rfl
theorem Length.res_7_h : Length.Statement .res_7_h := fun _ => rfl
theorem Length.res_7_l : Length.Statement .res_7_l := fun _ => rfl
theorem Length.res_7_atHL : Length.Statement .res_7_atHL := fun _ => rfl
theorem Length.res_7_a : Length.Statement .res_7_a := fun _ => rfl
theorem Length.set_0_b : Length.Statement .set_0_b := fun _ => rfl
theorem Length.set_0_c : Length.Statement .set_0_c := fun _ => rfl
theorem Length.set_0_d : Length.Statement .set_0_d := fun _ => rfl
theorem Length.set_0_e : Length.Statement .set_0_e := fun _ => rfl
theorem Length.set_0_h : Length.Statement .set_0_h := fun _ => rfl
theorem Length.set_0_l : Length.Statement .set_0_l := fun _ => rfl
theorem Length.set_0_atHL : Length.Statement .set_0_atHL := fun _ => rfl
theorem Length.set_0_a : Length.Statement .set_0_a := fun _ => rfl
theorem Length.set_1_b : Length.Statement .set_1_b := fun _ => rfl
theorem Length.set_1_c : Length.Statement .set_1_c := fun _ => rfl
theorem Length.set_1_d : Length.Statement .set_1_d := fun _ => rfl
theorem Length.set_1_e : Length.Statement .set_1_e := fun _ => rfl
theorem Length.set_1_h : Length.Statement .set_1_h := fun _ => rfl
theorem Length.set_1_l : Length.Statement .set_1_l := fun _ => rfl
theorem Length.set_1_atHL : Length.Statement .set_1_atHL := fun _ => rfl
theorem Length.set_1_a : Length.Statement .set_1_a := fun _ => rfl
theorem Length.set_2_b : Length.Statement .set_2_b := fun _ => rfl
theorem Length.set_2_c : Length.Statement .set_2_c := fun _ => rfl
theorem Length.set_2_d : Length.Statement .set_2_d := fun _ => rfl
theorem Length.set_2_e : Length.Statement .set_2_e := fun _ => rfl
theorem Length.set_2_h : Length.Statement .set_2_h := fun _ => rfl
theorem Length.set_2_l : Length.Statement .set_2_l := fun _ => rfl
theorem Length.set_2_atHL : Length.Statement .set_2_atHL := fun _ => rfl
theorem Length.set_2_a : Length.Statement .set_2_a := fun _ => rfl
theorem Length.set_3_b : Length.Statement .set_3_b := fun _ => rfl
theorem Length.set_3_c : Length.Statement .set_3_c := fun _ => rfl
theorem Length.set_3_d : Length.Statement .set_3_d := fun _ => rfl
theorem Length.set_3_e : Length.Statement .set_3_e := fun _ => rfl
theorem Length.set_3_h : Length.Statement .set_3_h := fun _ => rfl
theorem Length.set_3_l : Length.Statement .set_3_l := fun _ => rfl
theorem Length.set_3_atHL : Length.Statement .set_3_atHL := fun _ => rfl
theorem Length.set_3_a : Length.Statement .set_3_a := fun _ => rfl
theorem Length.set_4_b : Length.Statement .set_4_b := fun _ => rfl
theorem Length.set_4_c : Length.Statement .set_4_c := fun _ => rfl
theorem Length.set_4_d : Length.Statement .set_4_d := fun _ => rfl
theorem Length.set_4_e : Length.Statement .set_4_e := fun _ => rfl
theorem Length.set_4_h : Length.Statement .set_4_h := fun _ => rfl
theorem Length.set_4_l : Length.Statement .set_4_l := fun _ => rfl
theorem Length.set_4_atHL : Length.Statement .set_4_atHL := fun _ => rfl
theorem Length.set_4_a : Length.Statement .set_4_a := fun _ => rfl
theorem Length.set_5_b : Length.Statement .set_5_b := fun _ => rfl
theorem Length.set_5_c : Length.Statement .set_5_c := fun _ => rfl
theorem Length.set_5_d : Length.Statement .set_5_d := fun _ => rfl
theorem Length.set_5_e : Length.Statement .set_5_e := fun _ => rfl
theorem Length.set_5_h : Length.Statement .set_5_h := fun _ => rfl
theorem Length.set_5_l : Length.Statement .set_5_l := fun _ => rfl
theorem Length.set_5_atHL : Length.Statement .set_5_atHL := fun _ => rfl
theorem Length.set_5_a : Length.Statement .set_5_a := fun _ => rfl
theorem Length.set_6_b : Length.Statement .set_6_b := fun _ => rfl
theorem Length.set_6_c : Length.Statement .set_6_c := fun _ => rfl
theorem Length.set_6_d : Length.Statement .set_6_d := fun _ => rfl
theorem Length.set_6_e : Length.Statement .set_6_e := fun _ => rfl
theorem Length.set_6_h : Length.Statement .set_6_h := fun _ => rfl
theorem Length.set_6_l : Length.Statement .set_6_l := fun _ => rfl
theorem Length.set_6_atHL : Length.Statement .set_6_atHL := fun _ => rfl
theorem Length.set_6_a : Length.Statement .set_6_a := fun _ => rfl
theorem Length.set_7_b : Length.Statement .set_7_b := fun _ => rfl
theorem Length.set_7_c : Length.Statement .set_7_c := fun _ => rfl
theorem Length.set_7_d : Length.Statement .set_7_d := fun _ => rfl
theorem Length.set_7_e : Length.Statement .set_7_e := fun _ => rfl
theorem Length.set_7_h : Length.Statement .set_7_h := fun _ => rfl
theorem Length.set_7_l : Length.Statement .set_7_l := fun _ => rfl
theorem Length.set_7_atHL : Length.Statement .set_7_atHL := fun _ => rfl
theorem Length.set_7_a : Length.Statement .set_7_a := fun _ => rfl

end Sys2Proof.Laws
end

