-- ==== Sys2Proof/Tests/Slice0.lean ====
section
/-!
SUPPORT. The model's own tests: well-formedness, decoding of words written out from the spec's encodings, single steps with
the values of spec/95_test_vectors.md (V numbers) or of a rule's worked example, and for each statement with hypotheses a
witness that meets them.
-/

namespace Sys2Proof.Tests

open Sys2Proof Sys2Proof.Machine Sys2Proof.Claims

/-! ### Well-formedness: an ill-formed term for each check -/

theorem test_wf_refuses_illegal_nop : (Instr.illegal 0x00).wf = false := by decide

theorem test_wf_refuses_lone_prefix : Instr.prefixCB.wf = false := by decide

theorem test_wf_accepts : (Instr.illegal 0xD3).wf = true ∧ (Instr.illegal 0xFD).wf = true ∧ (Instr.ld_a_n8 0xFF).wf = true := by
  decide

/-! ### Decoding: every opcode, written out (spec/30_encoding.md R146-R149) -/

theorem test_decode_0x :
    ([0x00, 0x01, 0x02, 0x03, 0x04, 0x05, 0x06, 0x07, 0x08, 0x09, 0x0A, 0x0B, 0x0C, 0x0D, 0x0E, 0x0F] : List Byte).map (fun b => decode3 b 0x34 0x12) = [
      .nop, .ld_bc_n16 0x1234, .ld_atBC_a, .inc_bc, .inc_b, .dec_b, .ld_b_n8 0x34, .rlca, .ld_atA16_sp 0x1234,
      .add_hl_bc, .ld_a_atBC, .dec_bc, .inc_c, .dec_c, .ld_c_n8 0x34, .rrca] := rfl

theorem test_decode_1x :
    ([0x10, 0x11, 0x12, 0x13, 0x14, 0x15, 0x16, 0x17, 0x18, 0x19, 0x1A, 0x1B, 0x1C, 0x1D, 0x1E, 0x1F] : List Byte).map (fun b => decode3 b 0x34 0x12) = [
      .stop 0x34, .ld_de_n16 0x1234, .ld_atDE_a, .inc_de, .inc_d, .dec_d, .ld_d_n8 0x34, .rla, .jr_e8 0x34,
      .add_hl_de, .ld_a_atDE, .dec_de, .inc_e, .dec_e, .ld_e_n8 0x34, .rra] := rfl

theorem test_decode_2x :
    ([0x20, 0x21, 0x22, 0x23, 0x24, 0x25, 0x26, 0x27, 0x28, 0x29, 0x2A, 0x2B, 0x2C, 0x2D, 0x2E, 0x2F] : List Byte).map (fun b => decode3 b 0x34 0x12) = [
      .jr_nz_e8 0x34, .ld_hl_n16 0x1234, .ld_atHLI_a, .inc_hl, .inc_h, .dec_h, .ld_h_n8 0x34, .daa, .jr_z_e8 0x34,
      .add_hl_hl, .ld_a_atHLI, .dec_hl, .inc_l, .dec_l, .ld_l_n8 0x34, .cpl] := rfl

theorem test_decode_3x :
    ([0x30, 0x31, 0x32, 0x33, 0x34, 0x35, 0x36, 0x37, 0x38, 0x39, 0x3A, 0x3B, 0x3C, 0x3D, 0x3E, 0x3F] : List Byte).map (fun b => decode3 b 0x34 0x12) = [
      .jr_nc_e8 0x34, .ld_sp_n16 0x1234, .ld_atHLD_a, .inc_sp, .inc_atHL, .dec_atHL, .ld_atHL_n8 0x34, .scf,
      .jr_c_e8 0x34, .add_hl_sp, .ld_a_atHLD, .dec_sp, .inc_a, .dec_a, .ld_a_n8 0x34, .ccf] := rfl

theorem test_decode_4x :
    ([0x40, 0x41, 0x42, 0x43, 0x44, 0x45, 0x46, 0x47, 0x48, 0x49, 0x4A, 0x4B, 0x4C, 0x4D, 0x4E, 0x4F] : List Byte).map (fun b => decode3 b 0x34 0x12) = [
      .ld_b_b, .ld_b_c, .ld_b_d, .ld_b_e, .ld_b_h, .ld_b_l, .ld_b_atHL, .ld_b_a, .ld_c_b, .ld_c_c, .ld_c_d, .ld_c_e,
      .ld_c_h, .ld_c_l, .ld_c_atHL, .ld_c_a] := rfl

theorem test_decode_5x :
    ([0x50, 0x51, 0x52, 0x53, 0x54, 0x55, 0x56, 0x57, 0x58, 0x59, 0x5A, 0x5B, 0x5C, 0x5D, 0x5E, 0x5F] : List Byte).map (fun b => decode3 b 0x34 0x12) = [
      .ld_d_b, .ld_d_c, .ld_d_d, .ld_d_e, .ld_d_h, .ld_d_l, .ld_d_atHL, .ld_d_a, .ld_e_b, .ld_e_c, .ld_e_d, .ld_e_e,
      .ld_e_h, .ld_e_l, .ld_e_atHL, .ld_e_a] := rfl

theorem test_decode_6x :
    ([0x60, 0x61, 0x62, 0x63, 0x64, 0x65, 0x66, 0x67, 0x68, 0x69, 0x6A, 0x6B, 0x6C, 0x6D, 0x6E, 0x6F] : List Byte).map (fun b => decode3 b 0x34 0x12) = [
      .ld_h_b, .ld_h_c, .ld_h_d, .ld_h_e, .ld_h_h, .ld_h_l, .ld_h_atHL, .ld_h_a, .ld_l_b, .ld_l_c, .ld_l_d, .ld_l_e,
      .ld_l_h, .ld_l_l, .ld_l_atHL, .ld_l_a] := rfl

theorem test_decode_7x :
    ([0x70, 0x71, 0x72, 0x73, 0x74, 0x75, 0x76, 0x77, 0x78, 0x79, 0x7A, 0x7B, 0x7C, 0x7D, 0x7E, 0x7F] : List Byte).map (fun b => decode3 b 0x34 0x12) = [
      .ld_atHL_b, .ld_atHL_c, .ld_atHL_d, .ld_atHL_e, .ld_atHL_h, .ld_atHL_l, .halt, .ld_atHL_a, .ld_a_b, .ld_a_c,
      .ld_a_d, .ld_a_e, .ld_a_h, .ld_a_l, .ld_a_atHL, .ld_a_a] := rfl

theorem test_decode_8x :
    ([0x80, 0x81, 0x82, 0x83, 0x84, 0x85, 0x86, 0x87, 0x88, 0x89, 0x8A, 0x8B, 0x8C, 0x8D, 0x8E, 0x8F] : List Byte).map (fun b => decode3 b 0x34 0x12) = [
      .add_a_b, .add_a_c, .add_a_d, .add_a_e, .add_a_h, .add_a_l, .add_a_atHL, .add_a_a, .adc_a_b, .adc_a_c,
      .adc_a_d, .adc_a_e, .adc_a_h, .adc_a_l, .adc_a_atHL, .adc_a_a] := rfl

theorem test_decode_9x :
    ([0x90, 0x91, 0x92, 0x93, 0x94, 0x95, 0x96, 0x97, 0x98, 0x99, 0x9A, 0x9B, 0x9C, 0x9D, 0x9E, 0x9F] : List Byte).map (fun b => decode3 b 0x34 0x12) = [
      .sub_b, .sub_c, .sub_d, .sub_e, .sub_h, .sub_l, .sub_atHL, .sub_a, .sbc_a_b, .sbc_a_c, .sbc_a_d, .sbc_a_e,
      .sbc_a_h, .sbc_a_l, .sbc_a_atHL, .sbc_a_a] := rfl

theorem test_decode_ax :
    ([0xA0, 0xA1, 0xA2, 0xA3, 0xA4, 0xA5, 0xA6, 0xA7, 0xA8, 0xA9, 0xAA, 0xAB, 0xAC, 0xAD, 0xAE, 0xAF] : List Byte).map (fun b => decode3 b 0x34 0x12) = [
      .and_b, .and_c, .and_d, .and_e, .and_h, .and_l, .and_atHL, .and_a, .xor_b, .xor_c, .xor_d, .xor_e, .xor_h,
      .xor_l, .xor_atHL, .xor_a] := rfl

theorem test_decode_bx :
    ([0xB0, 0xB1, 0xB2, 0xB3, 0xB4, 0xB5, 0xB6, 0xB7, 0xB8, 0xB9, 0xBA, 0xBB, 0xBC, 0xBD, 0xBE, 0xBF] : List Byte).map (fun b => decode3 b 0x34 0x12) = [
      .or_b, .or_c, .or_d, .or_e, .or_h, .or_l, .or_atHL, .or_a, .cp_b, .cp_c, .cp_d, .cp_e, .cp_h, .cp_l, .cp_atHL,
      .cp_a] := rfl

theorem test_decode_cx :
    ([0xC0, 0xC1, 0xC2, 0xC3, 0xC4, 0xC5, 0xC6, 0xC7, 0xC8, 0xC9, 0xCA, 0xCC, 0xCD, 0xCE, 0xCF] : List Byte).map (fun b => decode3 b 0x34 0x12) = [
      .ret_nz, .pop_bc, .jp_nz_a16 0x1234, .jp_a16 0x1234, .call_nz_a16 0x1234, .push_bc, .add_a_n8 0x34, .rst_00,
      .ret_z, .ret, .jp_z_a16 0x1234, .call_z_a16 0x1234, .call_a16 0x1234, .adc_a_n8 0x34, .rst_08] := rfl

theorem test_decode_dx :
    ([0xD0, 0xD1, 0xD2, 0xD3, 0xD4, 0xD5, 0xD6, 0xD7, 0xD8, 0xD9, 0xDA, 0xDB, 0xDC, 0xDD, 0xDE, 0xDF] : List Byte).map (fun b => decode3 b 0x34 0x12) = [
      .ret_nc, .pop_de, .jp_nc_a16 0x1234, .illegal 0xD3, .call_nc_a16 0x1234, .push_de, .sub_n8 0x34, .rst_10,
      .ret_c, .reti, .jp_c_a16 0x1234, .illegal 0xDB, .call_c_a16 0x1234, .illegal 0xDD, .sbc_a_n8 0x34, .rst_18] := rfl

theorem test_decode_ex :
    ([0xE0, 0xE1, 0xE2, 0xE3, 0xE4, 0xE5, 0xE6, 0xE7, 0xE8, 0xE9, 0xEA, 0xEB, 0xEC, 0xED, 0xEE, 0xEF] : List Byte).map (fun b => decode3 b 0x34 0x12) = [
      .ldh_atA8_a 0x34, .pop_hl, .ldh_atC_a, .illegal 0xE3, .illegal 0xE4, .push_hl, .and_n8 0x34, .rst_20,
      .add_sp_e8 0x34, .jp_hl, .ld_atA16_a 0x1234, .illegal 0xEB, .illegal 0xEC, .illegal 0xED, .xor_n8 0x34, .rst_28] := rfl

theorem test_decode_fx :
    ([0xF0, 0xF1, 0xF2, 0xF3, 0xF4, 0xF5, 0xF6, 0xF7, 0xF8, 0xF9, 0xFA, 0xFB, 0xFC, 0xFD, 0xFE, 0xFF] : List Byte).map (fun b => decode3 b 0x34 0x12) = [
      .ldh_a_atA8 0x34, .pop_af, .ldh_a_atC, .di, .illegal 0xF4, .push_af, .or_n8 0x34, .rst_30, .ld_hl_sp_e8 0x34,
      .ld_sp_hl, .ld_a_atA16 0x1234, .ei, .illegal 0xFC, .illegal 0xFD, .cp_n8 0x34, .rst_38] := rfl

theorem test_decode_cb_0x :
    ([0x00, 0x01, 0x02, 0x03, 0x04, 0x05, 0x06, 0x07, 0x08, 0x09, 0x0A, 0x0B, 0x0C, 0x0D, 0x0E, 0x0F] : List Byte).map (fun b => decode3 0xCB b 0x12) = [
      .rlc_b, .rlc_c, .rlc_d, .rlc_e, .rlc_h, .rlc_l, .rlc_atHL, .rlc_a, .rrc_b, .rrc_c, .rrc_d, .rrc_e, .rrc_h,
      .rrc_l, .rrc_atHL, .rrc_a] := rfl

theorem test_decode_cb_1x :
    ([0x10, 0x11, 0x12, 0x13, 0x14, 0x15, 0x16, 0x17, 0x18, 0x19, 0x1A, 0x1B, 0x1C, 0x1D, 0x1E, 0x1F] : List Byte).map (fun b => decode3 0xCB b 0x12) = [
      .rl_b, .rl_c, .rl_d, .rl_e, .rl_h, .rl_l, .rl_atHL, .rl_a, .rr_b, .rr_c, .rr_d, .rr_e, .rr_h, .rr_l, .rr_atHL,
      .rr_a] := rfl

theorem test_decode_cb_2x :
    ([0x20, 0x21, 0x22, 0x23, 0x24, 0x25, 0x26, 0x27, 0x28, 0x29, 0x2A, 0x2B, 0x2C, 0x2D, 0x2E, 0x2F] : List Byte).map (fun b => decode3 0xCB b 0x12) = [
      .sla_b, .sla_c, .sla_d, .sla_e, .sla_h, .sla_l, .sla_atHL, .sla_a, .sra_b, .sra_c, .sra_d, .sra_e, .sra_h,
      .sra_l, .sra_atHL, .sra_a] := rfl

theorem test_decode_cb_3x :
    ([0x30, 0x31, 0x32, 0x33, 0x34, 0x35, 0x36, 0x37, 0x38, 0x39, 0x3A, 0x3B, 0x3C, 0x3D, 0x3E, 0x3F] : List Byte).map (fun b => decode3 0xCB b 0x12) = [
      .swap_b, .swap_c, .swap_d, .swap_e, .swap_h, .swap_l, .swap_atHL, .swap_a, .srl_b, .srl_c, .srl_d, .srl_e,
      .srl_h, .srl_l, .srl_atHL, .srl_a] := rfl

theorem test_decode_cb_4x :
    ([0x40, 0x41, 0x42, 0x43, 0x44, 0x45, 0x46, 0x47, 0x48, 0x49, 0x4A, 0x4B, 0x4C, 0x4D, 0x4E, 0x4F] : List Byte).map (fun b => decode3 0xCB b 0x12) = [
      .bit_0_b, .bit_0_c, .bit_0_d, .bit_0_e, .bit_0_h, .bit_0_l, .bit_0_atHL, .bit_0_a, .bit_1_b, .bit_1_c,
      .bit_1_d, .bit_1_e, .bit_1_h, .bit_1_l, .bit_1_atHL, .bit_1_a] := rfl

theorem test_decode_cb_5x :
    ([0x50, 0x51, 0x52, 0x53, 0x54, 0x55, 0x56, 0x57, 0x58, 0x59, 0x5A, 0x5B, 0x5C, 0x5D, 0x5E, 0x5F] : List Byte).map (fun b => decode3 0xCB b 0x12) = [
      .bit_2_b, .bit_2_c, .bit_2_d, .bit_2_e, .bit_2_h, .bit_2_l, .bit_2_atHL, .bit_2_a, .bit_3_b, .bit_3_c,
      .bit_3_d, .bit_3_e, .bit_3_h, .bit_3_l, .bit_3_atHL, .bit_3_a] := rfl

theorem test_decode_cb_6x :
    ([0x60, 0x61, 0x62, 0x63, 0x64, 0x65, 0x66, 0x67, 0x68, 0x69, 0x6A, 0x6B, 0x6C, 0x6D, 0x6E, 0x6F] : List Byte).map (fun b => decode3 0xCB b 0x12) = [
      .bit_4_b, .bit_4_c, .bit_4_d, .bit_4_e, .bit_4_h, .bit_4_l, .bit_4_atHL, .bit_4_a, .bit_5_b, .bit_5_c,
      .bit_5_d, .bit_5_e, .bit_5_h, .bit_5_l, .bit_5_atHL, .bit_5_a] := rfl

theorem test_decode_cb_7x :
    ([0x70, 0x71, 0x72, 0x73, 0x74, 0x75, 0x76, 0x77, 0x78, 0x79, 0x7A, 0x7B, 0x7C, 0x7D, 0x7E, 0x7F] : List Byte).map (fun b => decode3 0xCB b 0x12) = [
      .bit_6_b, .bit_6_c, .bit_6_d, .bit_6_e, .bit_6_h, .bit_6_l, .bit_6_atHL, .bit_6_a, .bit_7_b, .bit_7_c,
      .bit_7_d, .bit_7_e, .bit_7_h, .bit_7_l, .bit_7_atHL, .bit_7_a] := rfl

theorem test_decode_cb_8x :
    ([0x80, 0x81, 0x82, 0x83, 0x84, 0x85, 0x86, 0x87, 0x88, 0x89, 0x8A, 0x8B, 0x8C, 0x8D, 0x8E, 0x8F] : List Byte).map (fun b => decode3 0xCB b 0x12) = [
      .res_0_b, .res_0_c, .res_0_d, .res_0_e, .res_0_h, .res_0_l, .res_0_atHL, .res_0_a, .res_1_b, .res_1_c,
      .res_1_d, .res_1_e, .res_1_h, .res_1_l, .res_1_atHL, .res_1_a] := rfl

theorem test_decode_cb_9x :
    ([0x90, 0x91, 0x92, 0x93, 0x94, 0x95, 0x96, 0x97, 0x98, 0x99, 0x9A, 0x9B, 0x9C, 0x9D, 0x9E, 0x9F] : List Byte).map (fun b => decode3 0xCB b 0x12) = [
      .res_2_b, .res_2_c, .res_2_d, .res_2_e, .res_2_h, .res_2_l, .res_2_atHL, .res_2_a, .res_3_b, .res_3_c,
      .res_3_d, .res_3_e, .res_3_h, .res_3_l, .res_3_atHL, .res_3_a] := rfl

theorem test_decode_cb_ax :
    ([0xA0, 0xA1, 0xA2, 0xA3, 0xA4, 0xA5, 0xA6, 0xA7, 0xA8, 0xA9, 0xAA, 0xAB, 0xAC, 0xAD, 0xAE, 0xAF] : List Byte).map (fun b => decode3 0xCB b 0x12) = [
      .res_4_b, .res_4_c, .res_4_d, .res_4_e, .res_4_h, .res_4_l, .res_4_atHL, .res_4_a, .res_5_b, .res_5_c,
      .res_5_d, .res_5_e, .res_5_h, .res_5_l, .res_5_atHL, .res_5_a] := rfl

theorem test_decode_cb_bx :
    ([0xB0, 0xB1, 0xB2, 0xB3, 0xB4, 0xB5, 0xB6, 0xB7, 0xB8, 0xB9, 0xBA, 0xBB, 0xBC, 0xBD, 0xBE, 0xBF] : List Byte).map (fun b => decode3 0xCB b 0x12) = [
      .res_6_b, .res_6_c, .res_6_d, .res_6_e, .res_6_h, .res_6_l, .res_6_atHL, .res_6_a, .res_7_b, .res_7_c,
      .res_7_d, .res_7_e, .res_7_h, .res_7_l, .res_7_atHL, .res_7_a] := rfl

theorem test_decode_cb_cx :
    ([0xC0, 0xC1, 0xC2, 0xC3, 0xC4, 0xC5, 0xC6, 0xC7, 0xC8, 0xC9, 0xCA, 0xCB, 0xCC, 0xCD, 0xCE, 0xCF] : List Byte).map (fun b => decode3 0xCB b 0x12) = [
      .set_0_b, .set_0_c, .set_0_d, .set_0_e, .set_0_h, .set_0_l, .set_0_atHL, .set_0_a, .set_1_b, .set_1_c,
      .set_1_d, .set_1_e, .set_1_h, .set_1_l, .set_1_atHL, .set_1_a] := rfl

theorem test_decode_cb_dx :
    ([0xD0, 0xD1, 0xD2, 0xD3, 0xD4, 0xD5, 0xD6, 0xD7, 0xD8, 0xD9, 0xDA, 0xDB, 0xDC, 0xDD, 0xDE, 0xDF] : List Byte).map (fun b => decode3 0xCB b 0x12) = [
      .set_2_b, .set_2_c, .set_2_d, .set_2_e, .set_2_h, .set_2_l, .set_2_atHL, .set_2_a, .set_3_b, .set_3_c,
      .set_3_d, .set_3_e, .set_3_h, .set_3_l, .set_3_atHL, .set_3_a] := rfl

theorem test_decode_cb_ex :
    ([0xE0, 0xE1, 0xE2, 0xE3, 0xE4, 0xE5, 0xE6, 0xE7, 0xE8, 0xE9, 0xEA, 0xEB, 0xEC, 0xED, 0xEE, 0xEF] : List Byte).map (fun b => decode3 0xCB b 0x12) = [
      .set_4_b, .set_4_c, .set_4_d, .set_4_e, .set_4_h, .set_4_l, .set_4_atHL, .set_4_a, .set_5_b, .set_5_c,
      .set_5_d, .set_5_e, .set_5_h, .set_5_l, .set_5_atHL, .set_5_a] := rfl

theorem test_decode_cb_fx :
    ([0xF0, 0xF1, 0xF2, 0xF3, 0xF4, 0xF5, 0xF6, 0xF7, 0xF8, 0xF9, 0xFA, 0xFB, 0xFC, 0xFD, 0xFE, 0xFF] : List Byte).map (fun b => decode3 0xCB b 0x12) = [
      .set_6_b, .set_6_c, .set_6_d, .set_6_e, .set_6_h, .set_6_l, .set_6_atHL, .set_6_a, .set_7_b, .set_7_c,
      .set_7_d, .set_7_e, .set_7_h, .set_7_l, .set_7_atHL, .set_7_a] := rfl

/-- Words as the opcode table numbers them: LD A,n8; PREFIX CB alone; SWAP A; SET 3,(HL); the illegal 0xD3; too long. -/
theorem test_table_words : decodeTableWord 8 0x3E = some (.ld_a_n8 0) ∧ decodeTableWord 8 0xCB = some .prefixCB ∧
    decodeTableWord 16 0xCB37 = some .swap_a ∧ decodeTableWord 16 0xCBDE = some .set_3_atHL ∧
    decodeTableWord 8 0xD3 = some (.illegal 0xD3) ∧ decodeTableWord 8 0x18 = some (.jr_e8 0) := by decide

/-! ### Single steps (spec/95_test_vectors.md section 2; work RAM holds the bytes from 0xC000 on) -/

/-- The post-boot state with the given storage, CPU and changes. -/
def start (mem : Memory) (cpu : Cpu) (bus : Bus → Bus := id) (config : Config := {}) : State :=
  { State.reset with config := config, cpu := cpu, bus := bus (Bus.postBoot mem Cart.blank) }

/-- What is seen of the state that a CPU step answers. -/
def after {α : Type} (s : State) (see : State → α) : Option α :=
  match cpuStep s with
  | .next t => some (see t)
  | .fault _ => none
  | .refused _ => none
/-- V1, LD B,C. -/
theorem test_V1_ld_b_c :
    after (start [(0xC000, 0x41)] { Cpu.postBoot with pc := 0xC000, c := 0x5A })
    (fun t => (t.cpu.b, t.cpu.pc, t.cpu.cost)) =
    some (0x5A, 0xC001, 4) := by decide

/-- V2, LD A,n8. -/
theorem test_V2_ld_a_n8 :
    after (start [(0xC000, 0x3E)] { Cpu.postBoot with pc := 0xC000, a := 0x77 })
    (fun t => (t.cpu.a, t.cpu.f, t.cpu.pc, t.cpu.cost)) =
    some (0x00, ⟨true, false, true, true⟩, 0xC002, 8) := by decide

/-- V3, LD (HL),n8. -/
theorem test_V3_ld_athl_n8 :
    after (start [(0xC000, 0x36), (0xC001, 0x77)] { Cpu.postBoot with pc := 0xC000, h := 0xC1, l := 0x00 })
    (fun t => (t.read 0xC100, t.cpu.pc, t.cpu.cost)) =
    some (0x77, 0xC002, 12) := by decide

/-- V4, LD A,(HL+). -/
theorem test_V4_ld_a_athli :
    after (start [(0xC000, 0x2A), (0xC0FF, 0x12)] { Cpu.postBoot with pc := 0xC000, h := 0xC0, l := 0xFF })
    (fun t => (t.cpu.a, t.cpu.hl, t.cpu.cost)) =
    some (0x12, 0xC100, 8) := by decide

/-- V5, LD (HL-),A. -/
theorem test_V5_ld_athld_a :
    after (start [(0xC000, 0x32)] { Cpu.postBoot with pc := 0xC000, h := 0xC0, l := 0x10, a := 0x9C })
    (fun t => (t.read 0xC010, t.cpu.hl, t.cpu.cost)) =
    some (0x9C, 0xC00F, 8) := by decide

/-- V7, LDH (a8),A. -/
theorem test_V7_ldh_a8_a :
    after (start [(0xC000, 0xE0), (0xC001, 0x80)] { Cpu.postBoot with pc := 0xC000, a := 0x42 })
    (fun t => (t.read 0xFF80, t.cpu.pc, t.cpu.cost)) =
    some (0x42, 0xC002, 12) := by decide

/-- V12, LD (a16),SP. -/
theorem test_V12_ld_a16_sp :
    after (start [(0xC000, 0x08), (0xC002, 0xD0)] { Cpu.postBoot with pc := 0xC000, sp := 0xABCD })
    (fun t => (t.read 0xD000, t.read 0xD001, t.cpu.cost)) =
    some (0xCD, 0xAB, 20) := by decide

/-- V13, LD (a16),SP wrap. -/
theorem test_V13_ld_a16_sp_wrap :
    after (start [(0xC000, 0x08), (0xC001, 0xFF), (0xC002, 0xFF)] { Cpu.postBoot with pc := 0xC000, sp := 0x1234 })
    (fun t => (t.bus.ie, t.read 0x0000, t.cpu.cost)) =
    some (0x34, 0x00, 20) := by decide

/-- V15, LD SP,HL. -/
theorem test_V15_ld_sp_hl :
    after (start [(0xC000, 0xF9)] { Cpu.postBoot with pc := 0xC000, h := 0xD0, l := 0x00 })
    (fun t => (t.cpu.sp, t.cpu.cost)) =
    some (0xD000, 8) := by decide

/-- V16, LD HL,SP+e8. -/
theorem test_V16_ld_hl_sp_e8 :
    after (start [(0xC000, 0xF8), (0xC001, 0xFF)] { Cpu.postBoot with pc := 0xC000, sp := 0x0001 })
    (fun t => (t.cpu.hl, t.cpu.f, t.cpu.cost)) =
    some (0x0000, ⟨false, false, true, true⟩, 12) := by decide

/-- V18, LD HL,SP+e8 (SpOffsetFlags=Bits11_15). -/
theorem test_V18_ld_hl_sp_e8 :
    after (start [(0xC000, 0xF8), (0xC001, 0x01)] { Cpu.postBoot with pc := 0xC000, sp := 0x00FF } id { spOffsetFlags := .bits11And15 })
    (fun t => (t.cpu.hl, t.cpu.f, t.cpu.cost)) =
    some (0x0100, ⟨false, false, false, false⟩, 12) := by decide

/-- V19, PUSH BC. -/
theorem test_V19_push_bc :
    after (start [(0xC000, 0xC5)] { Cpu.postBoot with pc := 0xC000, sp := 0xDFFE, b := 0x12, c := 0x34 })
    (fun t => (t.cpu.sp, t.read 0xDFFD, t.read 0xDFFC, t.cpu.cost)) =
    some (0xDFFC, 0x12, 0x34, 16) := by decide

/-- V21, POP AF. -/
theorem test_V21_pop_af :
    after (start [(0xC000, 0xF1), (0xDFFC, 0xFF), (0xDFFD, 0x3C)] { Cpu.postBoot with pc := 0xC000, sp := 0xDFFC })
    (fun t => (t.cpu.a, t.cpu.f, t.cpu.sp, t.cpu.cost)) =
    some (0x3C, ⟨true, true, true, true⟩, 0xDFFE, 12) := by decide

/-- V22, POP DE. -/
theorem test_V22_pop_de :
    after (start [(0xC000, 0xD1), (0xFFFE, 0x34)] { Cpu.postBoot with pc := 0xC000, sp := 0xFFFE })
    (fun t => (t.cpu.de, t.cpu.sp, t.cpu.cost)) =
    some (0x0034, 0x0000, 12) := by decide

/-- V30, ADD A,B. -/
theorem test_V30_add_a_b :
    after (start [(0xC000, 0x80)] { Cpu.postBoot with pc := 0xC000, a := 0x3A, b := 0xC6, f := ⟨false, false, false, false⟩ })
    (fun t => (t.cpu.a, t.cpu.f, t.cpu.cost)) =
    some (0x00, ⟨true, false, true, true⟩, 4) := by decide

/-- V32, ADD A,(HL). -/
theorem test_V32_add_a_athl :
    after (start [(0xC000, 0x86), (0xC100, 0x80)] { Cpu.postBoot with pc := 0xC000, a := 0x80, h := 0xC1, l := 0x00, f := ⟨false, false, false, false⟩ })
    (fun t => (t.cpu.a, t.cpu.f, t.cpu.cost)) =
    some (0x00, ⟨true, false, false, true⟩, 8) := by decide

/-- V33, ADC A,n8. -/
theorem test_V33_adc_a_n8 :
    after (start [(0xC000, 0xCE)] { Cpu.postBoot with pc := 0xC000, a := 0xFF, f := ⟨false, false, false, true⟩ })
    (fun t => (t.cpu.a, t.cpu.f, t.cpu.cost)) =
    some (0x00, ⟨true, false, true, true⟩, 8) := by decide

/-- V37, SUB n8. -/
theorem test_V37_sub_n8 :
    after (start [(0xC000, 0xD6), (0xC001, 0x01)] { Cpu.postBoot with pc := 0xC000, a := 0x00, f := ⟨false, false, false, false⟩ })
    (fun t => (t.cpu.a, t.cpu.f, t.cpu.cost)) =
    some (0xFF, ⟨false, true, true, true⟩, 8) := by decide

/-- V38, SBC A,n8. -/
theorem test_V38_sbc_a_n8 :
    after (start [(0xC000, 0xDE)] { Cpu.postBoot with pc := 0xC000, a := 0x00, f := ⟨false, false, false, true⟩ })
    (fun t => (t.cpu.a, t.cpu.f, t.cpu.cost)) =
    some (0xFF, ⟨false, true, true, true⟩, 8) := by decide

/-- V39, SBC A,A. -/
theorem test_V39_sbc_a_a :
    after (start [(0xC000, 0x9F)] { Cpu.postBoot with pc := 0xC000, a := 0x42, f := ⟨false, false, false, true⟩ })
    (fun t => (t.cpu.a, t.cpu.f, t.cpu.cost)) =
    some (0xFF, ⟨false, true, true, true⟩, 4) := by decide

/-- V41, AND n8 (AndSetsH=True). -/
theorem test_V41_and_n8 :
    after (start [(0xC000, 0xE6), (0xC001, 0xA5)] { Cpu.postBoot with pc := 0xC000, a := 0x5A, f := ⟨false, false, false, false⟩ } id { andSetsH := true })
    (fun t => (t.cpu.a, t.cpu.f, t.cpu.cost)) =
    some (0x00, ⟨true, false, true, false⟩, 8) := by decide

/-- V43, XOR A. -/
theorem test_V43_xor_a :
    after (start [(0xC000, 0xAF)] { Cpu.postBoot with pc := 0xC000, a := 0x5A, f := ⟨false, true, true, true⟩ })
    (fun t => (t.cpu.a, t.cpu.f, t.cpu.cost)) =
    some (0x00, ⟨true, false, false, false⟩, 4) := by decide

/-- V45, OR n8. -/
theorem test_V45_or_n8 :
    after (start [(0xC000, 0xF6)] { Cpu.postBoot with pc := 0xC000, a := 0x00, f := ⟨false, true, true, true⟩ })
    (fun t => (t.cpu.a, t.cpu.f, t.cpu.cost)) =
    some (0x00, ⟨true, false, false, false⟩, 8) := by decide

/-- V47, CP n8. -/
theorem test_V47_cp_n8 :
    after (start [(0xC000, 0xFE), (0xC001, 0x40)] { Cpu.postBoot with pc := 0xC000, a := 0x3C, f := ⟨false, false, false, false⟩ })
    (fun t => (t.cpu.a, t.cpu.f, t.cpu.cost)) =
    some (0x3C, ⟨false, true, false, true⟩, 8) := by decide

/-- V50, INC A. -/
theorem test_V50_inc_a :
    after (start [(0xC000, 0x3C)] { Cpu.postBoot with pc := 0xC000, a := 0xFF, f := ⟨false, false, false, true⟩ })
    (fun t => (t.cpu.a, t.cpu.f, t.cpu.cost)) =
    some (0x00, ⟨true, false, true, true⟩, 4) := by decide

/-- V54, DEC (HL). -/
theorem test_V54_dec_athl :
    after (start [(0xC000, 0x35), (0xC100, 0x10)] { Cpu.postBoot with pc := 0xC000, h := 0xC1, l := 0x00, f := ⟨false, false, false, false⟩ })
    (fun t => (t.read 0xC100, t.cpu.f, t.cpu.cost)) =
    some (0x0F, ⟨false, true, true, false⟩, 12) := by decide

/-- V55, DAA. -/
theorem test_V55_daa :
    after (start [(0xC000, 0x27)] { Cpu.postBoot with pc := 0xC000, a := 0x3C, f := ⟨false, false, false, false⟩ })
    (fun t => (t.cpu.a, t.cpu.f, t.cpu.cost)) =
    some (0x42, ⟨false, false, false, false⟩, 4) := by decide

/-- V57, DAA. -/
theorem test_V57_daa :
    after (start [(0xC000, 0x27)] { Cpu.postBoot with pc := 0xC000, a := 0x00, f := ⟨false, false, true, true⟩ })
    (fun t => (t.cpu.a, t.cpu.f, t.cpu.cost)) =
    some (0x66, ⟨false, false, false, true⟩, 4) := by decide

/-- V59, DAA. -/
theorem test_V59_daa :
    after (start [(0xC000, 0x27)] { Cpu.postBoot with pc := 0xC000, a := 0x00, f := ⟨false, true, true, true⟩ })
    (fun t => (t.cpu.a, t.cpu.f, t.cpu.cost)) =
    some (0x9A, ⟨false, true, false, true⟩, 4) := by decide

/-- V61, CPL. -/
theorem test_V61_cpl :
    after (start [(0xC000, 0x2F)] { Cpu.postBoot with pc := 0xC000, a := 0x35, f := ⟨true, false, false, false⟩ })
    (fun t => (t.cpu.a, t.cpu.f, t.cpu.cost)) =
    some (0xCA, ⟨true, true, true, false⟩, 4) := by decide

/-- V62, SCF. -/
theorem test_V62_scf :
    after (start [(0xC000, 0x37)] { Cpu.postBoot with pc := 0xC000, f := ⟨true, true, true, false⟩ })
    (fun t => (t.cpu.f, t.cpu.cost)) =
    some (⟨true, false, false, true⟩, 4) := by decide

/-- V63, CCF. -/
theorem test_V63_ccf :
    after (start [(0xC000, 0x3F)] { Cpu.postBoot with pc := 0xC000, f := ⟨false, true, true, true⟩ })
    (fun t => (t.cpu.f, t.cpu.cost)) =
    some (⟨false, false, false, false⟩, 4) := by decide

/-- V70, ADD HL,BC. -/
theorem test_V70_add_hl_bc :
    after (start [(0xC000, 0x09)] { Cpu.postBoot with pc := 0xC000, h := 0x8A, l := 0x23, b := 0x06, c := 0x05, f := ⟨true, false, false, false⟩ })
    (fun t => (t.cpu.hl, t.cpu.f, t.cpu.cost)) =
    some (0x9028, ⟨true, false, true, false⟩, 8) := by decide

/-- V72, ADD HL,SP. -/
theorem test_V72_add_hl_sp :
    after (start [(0xC000, 0x39)] { Cpu.postBoot with pc := 0xC000, h := 0xFF, l := 0xFF, sp := 0x0001, f := ⟨false, false, false, false⟩ })
    (fun t => (t.cpu.hl, t.cpu.f, t.cpu.cost)) =
    some (0x0000, ⟨false, false, true, true⟩, 8) := by decide

/-- V75, DEC DE. -/
theorem test_V75_dec_de :
    after (start [(0xC000, 0x1B)] { Cpu.postBoot with pc := 0xC000, d := 0x00, e := 0x00, f := ⟨false, false, false, false⟩ })
    (fun t => (t.cpu.de, t.cpu.f, t.cpu.cost)) =
    some (0xFFFF, ⟨false, false, false, false⟩, 8) := by decide

/-- V80, ADD SP,e8. -/
theorem test_V80_add_sp_e8 :
    after (start [(0xC000, 0xE8), (0xC001, 0x08)] { Cpu.postBoot with pc := 0xC000, sp := 0x0FF8, f := ⟨false, false, false, false⟩ })
    (fun t => (t.cpu.sp, t.cpu.f, t.cpu.cost)) =
    some (0x1000, ⟨false, false, true, true⟩, 16) := by decide

/-- V81, ADD SP,e8 (SpOffsetFlags=Bits11_15). -/
theorem test_V81_add_sp_e8 :
    after (start [(0xC000, 0xE8), (0xC001, 0x08)] { Cpu.postBoot with pc := 0xC000, sp := 0x0FF8, f := ⟨false, false, false, false⟩ } id { spOffsetFlags := .bits11And15 })
    (fun t => (t.cpu.sp, t.cpu.f, t.cpu.cost)) =
    some (0x1000, ⟨false, false, true, false⟩, 16) := by decide

/-- V90, RLCA. -/
theorem test_V90_rlca :
    after (start [(0xC000, 0x07)] { Cpu.postBoot with pc := 0xC000, a := 0x85, f := ⟨false, false, false, false⟩ })
    (fun t => (t.cpu.a, t.cpu.f, t.cpu.cost)) =
    some (0x0B, ⟨false, false, false, true⟩, 4) := by decide

/-- V92, RRCA. -/
theorem test_V92_rrca :
    after (start [(0xC000, 0x0F)] { Cpu.postBoot with pc := 0xC000, a := 0x01, f := ⟨false, false, false, false⟩ })
    (fun t => (t.cpu.a, t.cpu.f, t.cpu.cost)) =
    some (0x80, ⟨false, false, false, true⟩, 4) := by decide

/-- V93, RLA. -/
theorem test_V93_rla :
    after (start [(0xC000, 0x17)] { Cpu.postBoot with pc := 0xC000, a := 0x80, f := ⟨false, false, false, false⟩ })
    (fun t => (t.cpu.a, t.cpu.f, t.cpu.cost)) =
    some (0x00, ⟨false, false, false, true⟩, 4) := by decide

/-- V94, RRA. -/
theorem test_V94_rra :
    after (start [(0xC000, 0x1F)] { Cpu.postBoot with pc := 0xC000, a := 0x01, f := ⟨false, false, false, true⟩ })
    (fun t => (t.cpu.a, t.cpu.f, t.cpu.cost)) =
    some (0x80, ⟨false, false, false, true⟩, 4) := by decide

/-- V96, RRC (HL). -/
theorem test_V96_rrc_athl :
    after (start [(0xC000, 0xCB), (0xC001, 0x0E), (0xC100, 0x01)] { Cpu.postBoot with pc := 0xC000, h := 0xC1, l := 0x00, f := ⟨false, false, false, false⟩ })
    (fun t => (t.read 0xC100, t.cpu.f, t.cpu.cost)) =
    some (0x80, ⟨false, false, false, true⟩, 16) := by decide

/-- V97, RL C. -/
theorem test_V97_rl_c :
    after (start [(0xC000, 0xCB), (0xC001, 0x11)] { Cpu.postBoot with pc := 0xC000, c := 0x80, f := ⟨false, false, false, false⟩ })
    (fun t => (t.cpu.c, t.cpu.f, t.cpu.cost)) =
    some (0x00, ⟨true, false, false, true⟩, 8) := by decide

/-- V98, RR D. -/
theorem test_V98_rr_d :
    after (start [(0xC000, 0xCB), (0xC001, 0x1A)] { Cpu.postBoot with pc := 0xC000, d := 0x01, f := ⟨false, false, false, true⟩ })
    (fun t => (t.cpu.d, t.cpu.f, t.cpu.cost)) =
    some (0x80, ⟨false, false, false, true⟩, 8) := by decide

/-- V99, SLA E. -/
theorem test_V99_sla_e :
    after (start [(0xC000, 0xCB), (0xC001, 0x23)] { Cpu.postBoot with pc := 0xC000, e := 0x80, f := ⟨false, false, false, false⟩ })
    (fun t => (t.cpu.e, t.cpu.f, t.cpu.cost)) =
    some (0x00, ⟨true, false, false, true⟩, 8) := by decide

/-- V100, SRA H. -/
theorem test_V100_sra_h :
    after (start [(0xC000, 0xCB), (0xC001, 0x2C)] { Cpu.postBoot with pc := 0xC000, h := 0x81, f := ⟨false, false, false, false⟩ })
    (fun t => (t.cpu.h, t.cpu.f, t.cpu.cost)) =
    some (0xC0, ⟨false, false, false, true⟩, 8) := by decide

/-- V101, SWAP A. -/
theorem test_V101_swap_a :
    after (start [(0xC000, 0xCB), (0xC001, 0x37)] { Cpu.postBoot with pc := 0xC000, a := 0xF0, f := ⟨false, true, true, true⟩ })
    (fun t => (t.cpu.a, t.cpu.f, t.cpu.cost)) =
    some (0x0F, ⟨false, false, false, false⟩, 8) := by decide

/-- V103, SRL L. -/
theorem test_V103_srl_l :
    after (start [(0xC000, 0xCB), (0xC001, 0x3D)] { Cpu.postBoot with pc := 0xC000, l := 0x01, f := ⟨false, false, false, false⟩ })
    (fun t => (t.cpu.l, t.cpu.f, t.cpu.cost)) =
    some (0x00, ⟨true, false, false, true⟩, 8) := by decide

/-- V104, BIT 7,H. -/
theorem test_V104_bit_7_h :
    after (start [(0xC000, 0xCB), (0xC001, 0x7C)] { Cpu.postBoot with pc := 0xC000, h := 0x7F, f := ⟨false, false, false, true⟩ })
    (fun t => (t.cpu.h, t.cpu.f, t.cpu.cost)) =
    some (0x7F, ⟨true, false, true, true⟩, 8) := by decide

/-- V105, BIT 0,(HL). -/
theorem test_V105_bit_0_athl :
    after (start [(0xC000, 0xCB), (0xC001, 0x46), (0xC100, 0x01)] { Cpu.postBoot with pc := 0xC000, h := 0xC1, l := 0x00, f := ⟨false, true, false, false⟩ })
    (fun t => (t.cpu.f, t.cpu.cost)) =
    some (⟨false, false, true, false⟩, 12) := by decide

/-- V106, RES 0,(HL). -/
theorem test_V106_res_0_athl :
    after (start [(0xC000, 0xCB), (0xC001, 0x86), (0xC100, 0xFF)] { Cpu.postBoot with pc := 0xC000, h := 0xC1, l := 0x00, f := ⟨false, false, false, false⟩ })
    (fun t => (t.read 0xC100, t.cpu.f, t.cpu.cost)) =
    some (0xFE, ⟨false, false, false, false⟩, 16) := by decide

/-- V107, SET 7,A. -/
theorem test_V107_set_7_a :
    after (start [(0xC000, 0xCB), (0xC001, 0xFF)] { Cpu.postBoot with pc := 0xC000, a := 0x00, f := ⟨false, false, false, false⟩ })
    (fun t => (t.cpu.a, t.cpu.f, t.cpu.cost)) =
    some (0x80, ⟨false, false, false, false⟩, 8) := by decide

/-- V120, JP a16. -/
theorem test_V120_jp_a16 :
    after (start [(0xC000, 0xC3), (0xC001, 0x50), (0xC002, 0x01)] { Cpu.postBoot with pc := 0xC000 })
    (fun t => (t.cpu.pc, t.cpu.cost)) =
    some (0x0150, 16) := by decide

/-- V122, JP Z,a16 not taken. -/
theorem test_V122_jp_z_a16_not_taken :
    after (start [(0xC000, 0xCA), (0xC002, 0x20)] { Cpu.postBoot with pc := 0xC000, f := ⟨false, false, false, false⟩ })
    (fun t => (t.cpu.pc, t.cpu.cost)) =
    some (0xC003, 12) := by decide

/-- V123, JP HL. -/
theorem test_V123_jp_hl :
    after (start [(0xC000, 0xE9)] { Cpu.postBoot with pc := 0xC000, h := 0x40, l := 0x00 })
    (fun t => (t.cpu.pc, t.cpu.cost)) =
    some (0x4000, 4) := by decide

/-- V126, JR NZ,e8 taken. -/
theorem test_V126_jr_nz_e8_taken :
    after (start [(0xC000, 0x20), (0xC001, 0x80)] { Cpu.postBoot with pc := 0xC000, f := ⟨false, false, false, false⟩ })
    (fun t => (t.cpu.pc, t.cpu.cost)) =
    some (0xBF82, 12) := by decide

/-- V128, CALL a16. -/
theorem test_V128_call_a16 :
    after (start [(0xC000, 0xCD), (0xC001, 0x34), (0xC002, 0x12)] { Cpu.postBoot with pc := 0xC000, sp := 0xDFFE })
    (fun t => (t.cpu.pc, t.cpu.sp, t.read 0xDFFD, t.read 0xDFFC, t.cpu.cost)) =
    some (0x1234, 0xDFFC, 0xC0, 0x03, 24) := by decide

/-- V129, CALL C,a16 not taken. -/
theorem test_V129_call_c_a16_not_taken :
    after (start [(0xC000, 0xDC), (0xC001, 0x34), (0xC002, 0x12)] { Cpu.postBoot with pc := 0xC000, sp := 0xDFFE, f := ⟨false, false, false, false⟩ })
    (fun t => (t.cpu.pc, t.cpu.sp, t.cpu.cost)) =
    some (0xC003, 0xDFFE, 12) := by decide

/-- V132, RET Z taken. -/
theorem test_V132_ret_z_taken :
    after (start [(0xC000, 0xC8), (0xDFFC, 0x03), (0xDFFD, 0x01)] { Cpu.postBoot with pc := 0xC000, sp := 0xDFFC, f := ⟨true, false, false, false⟩ })
    (fun t => (t.cpu.pc, t.cpu.sp, t.cpu.cost)) =
    some (0x0103, 0xDFFE, 20) := by decide

/-- V133, RET Z not taken. -/
theorem test_V133_ret_z_not_taken :
    after (start [(0xC000, 0xC8)] { Cpu.postBoot with pc := 0xC000, sp := 0xDFFC, f := ⟨false, false, false, false⟩ })
    (fun t => (t.cpu.pc, t.cpu.sp, t.cpu.cost)) =
    some (0xC001, 0xDFFC, 8) := by decide

/-- V134, RETI. -/
theorem test_V134_reti :
    after (start [(0xC000, 0xD9), (0xDFFC, 0x50), (0xDFFD, 0x01)] { Cpu.postBoot with pc := 0xC000, sp := 0xDFFC, ime := false })
    (fun t => (t.cpu.pc, t.cpu.sp, t.cpu.ime, t.cpu.cost)) =
    some (0x0150, 0xDFFE, true, 16) := by decide

/-- V135, RST 0x28. -/
theorem test_V135_rst_0x28 :
    after (start [(0xC000, 0xEF)] { Cpu.postBoot with pc := 0xC000, sp := 0xDFFE })
    (fun t => (t.cpu.pc, t.cpu.sp, t.read 0xDFFD, t.read 0xDFFC, t.cpu.cost)) =
    some (0x0028, 0xDFFC, 0xC0, 0x01, 16) := by decide

/-- V140, NOP. -/
theorem test_V140_nop :
    after (start [] { Cpu.postBoot with pc := 0xC000 })
    (fun t => (t.cpu.pc, t.cpu.f, t.cpu.cost)) =
    some (0xC001, ⟨true, false, true, true⟩, 4) := by decide

/-- V141, STOP. -/
theorem test_V141_stop :
    after (start [(0xC000, 0x10)] { Cpu.postBoot with pc := 0xC000 })
    (fun t => (t.cpu.pc, t.cpu.halted, t.cpu.cost)) =
    some (0xC002, false, 4) := by decide

/-- V142, STOP (StopBehaviour=Fatal). -/
theorem test_V142_stop :
    after (start [(0xC000, 0x10)] { Cpu.postBoot with pc := 0xC000 } id { stopBehaviour := .fatal })
    (fun t => (t.cpu.fatalAddr, t.cpu.pc, t.cpu.fatal)) =
    some (0xC000, 0xC000, true) := by decide

/-- V143, HALT. -/
theorem test_V143_halt :
    after (start [(0xC000, 0x76)] { Cpu.postBoot with pc := 0xC000 } (fun b => { b with ifr := 0x00 }))
    (fun t => (t.cpu.pc, t.cpu.halted, t.cpu.cost)) =
    some (0xC001, true, 4) := by decide

/-- V144, DI. -/
theorem test_V144_di :
    after (start [(0xC000, 0xF3)] { Cpu.postBoot with pc := 0xC000, ime := true })
    (fun t => (t.cpu.ime, t.cpu.cost)) =
    some (false, 4) := by decide

/-- V145, EI. -/
theorem test_V145_ei :
    after (start [(0xC000, 0xFB)] { Cpu.postBoot with pc := 0xC000, ime := false })
    (fun t => (t.cpu.ime, t.cpu.cost)) =
    some (true, 4) := by decide

/-- V147, illegal 0xFD. -/
theorem test_V147_illegal_0xfd :
    after (start [(0xC000, 0xFD)] { Cpu.postBoot with pc := 0xC000, a := 0x12 })
    (fun t => (t.cpu.fatalAddr, t.cpu.pc, t.cpu.a, t.cpu.fatal)) =
    some (0xC000, 0xC000, 0x12, true) := by decide

/-- V150, dispatch, all pending. -/
theorem test_V150_dispatch_all_pending :
    after (start [] { Cpu.postBoot with pc := 0xC000, ime := true, sp := 0xDFFE } (fun b => { b with ie := 0x1F, ifr := 0x1F }))
    (fun t => (t.cpu.pc, t.bus.ifr, t.cpu.sp, t.read 0xDFFD, t.read 0xDFFC, t.cpu.cost)) =
    some (0x0040, 0x1E, 0xDFFC, 0xC0, 0x00, 20) := by decide

/-- V152, dispatch, joypad. -/
theorem test_V152_dispatch_joypad :
    after (start [] { Cpu.postBoot with pc := 0xC000, ime := true, sp := 0xDFFE } (fun b => { b with ie := 0x10, ifr := 0xF0 }))
    (fun t => (t.cpu.pc, t.bus.ifr, t.cpu.cost)) =
    some (0x0060, 0xE0, 20) := by decide

/-- V154, halted, wake on unenabled bit. -/
theorem test_V154_halted_wake_on_unenabled_bit :
    after (start [] { Cpu.postBoot with pc := 0xC000, halted := true, ime := false } (fun b => { b with ie := 0x00, ifr := 0x04 }))
    (fun t => (t.cpu.pc, t.cpu.halted, t.bus.ifr, t.cpu.cost)) =
    some (0xC001, false, 0x04, 4) := by decide

/-- V156, halted, wake and dispatch. -/
theorem test_V156_halted_wake_and_dispatch :
    after (start [] { Cpu.postBoot with pc := 0xC001, halted := true, ime := true, sp := 0xDFFE } (fun b => { b with ie := 0x01, ifr := 0x01 }))
    (fun t => (t.cpu.pc, t.cpu.halted, t.bus.ifr, t.read 0xDFFD, t.read 0xDFFC, t.cpu.cost)) =
    some (0x0040, false, 0x00, 0xC0, 0x01, 20) := by decide

/-- V158, dispatch push over IE. -/
theorem test_V158_dispatch_push_over_ie :
    after (start [] { Cpu.postBoot with pc := 0xC123, ime := true, sp := 0x0000 } (fun b => { b with ie := 0x01, ifr := 0x01 }))
    (fun t => (t.cpu.pc, t.cpu.sp, t.bus.ie, t.bus.ifr, t.cpu.cost)) =
    some (0x0040, 0xFFFE, 0xC1, 0x00, 20) := by decide

/-! ### The devices (spec/95_test_vectors.md section 2) -/

/-- A PPU in a given place of its timing, over the post-boot bus with a change. -/
def timed (mode : Mode) (dots : Nat) (bus : Bus → Bus := id) (triggered : Bool := false) : State :=
  { State.reset with
    bus := bus State.reset.bus, ppu := { Ppu.initial with mode := mode, dots := dots, vblankTriggered := triggered } }

/-- What the PPU shows: mode, accumulator, LY, the STAT read, IF. -/
def shown (s : State) : Mode × Nat × Byte × Byte × Byte := (s.ppu.mode, s.ppu.dots, s.bus.ly, s.read 0xFF41, s.bus.ifr)

/-- V172. -/
theorem test_V172_oam_overshoot : shown ((timed .oamSearch 76).ppuStep 8) = (.transfer, 4, 0, 0x87, 0xE1) := by decide

/-- V174, LY = LYC and the STAT source 6. -/
theorem test_V174_end_of_hblank :
    shown ((timed .hblank 200 (fun b => { b with stat := 0x40, lyc := 1, ifr := 0 })).ppuStep 4) =
    (.oamSearch, 0, 1, 0xC6, 0x02) := by decide

/-- V175. -/
theorem test_V175_enter_vblank :
    let t := (timed .hblank 200 (fun b => { b with ly := 0x8F, stat := 0x10, ifr := 0 })).ppuStep 4;
    shown t = (.vblank, 0, 0x90, 0x91, 0x03) ∧ t.ppu.vblankTriggered = true ∧ t.ppu.frameReady = true := by decide

/-- V178, the wrap after line 153. -/
theorem test_V178_wrap :
    shown ((timed .vblank 452 (fun b => { b with ly := 0x99, stat := 0x41, ifr := 0 }) true).ppuStep 4) =
    (.oamSearch, 0, 0, 0xC6, 0x02) := by decide

/-- V179. -/
theorem test_V179_lcd_off :
    shown ((timed .transfer 100 (fun b => { b with lcdc := 0x11, stat := 0x03 })).ppuStep 8) = (.hblank, 0, 0, 0x80, 0xE1) := by
  decide

/-- Tile 1 of the rendering vectors, row 0, and the map entry (0, 0) that names it. -/
def tiles : Memory := [(0x8010, 0xF0), (0x8011, 0xCC), (0x9800, 0x01)]

/-- The first eight shades of line 0 over given storage. -/
def firstShades (mem : Memory) (bus : Bus → Bus) : List Shade :=
  ((bus (Bus.postBoot mem Cart.blank)).renderRow 0 0).take 8

/-- V190. -/
theorem test_V190_background : firstShades tiles (fun b => { b with bgp := 0xE4 }) = [3, 3, 1, 1, 2, 2, 0, 0] := by decide

/-- V192, SCX = 4. -/
theorem test_V192_scrolled : firstShades tiles (fun b => { b with bgp := 0xE4, scx := 4 }) = [2, 2, 0, 0, 0, 0, 0, 0] := by decide

/-- V200: sprite 0 at Y 16, X 8, tile 1, flipped in X; the background off. -/
theorem test_V200_sprite_flip :
    firstShades (tiles ++ [(0xFE00, 16), (0xFE01, 8), (0xFE02, 1), (0xFE03, 0x20)])
      (fun b => { b with lcdc := 0x92, obp0 := 0xE4 }) = [0, 0, 2, 2, 1, 1, 3, 3] := by decide

/-- V222. -/
theorem test_V222_divider :
    let t := State.timerStep { (start [] Cpu.postBoot (fun b => { b with div := 0xFF })) with divAcc := 255 } 4;
    (t.bus.div, t.divAcc) = (0x00, 3) := by decide

/-- V229: Down and Start pressed, both nibbles selected. -/
theorem test_V229_p1 :
    ((State.reset.sample { down := true, start := true }).write 0xFF00 0x00).read 0xFF00 = 0xC7 := by decide

/-- V231. -/
theorem test_V231_stat_write : (State.reset.write 0xFF41 0xFF).read 0xFF41 = 0xFE := by decide

/-- A cartridge of the bank vectors: bank `b` holds the byte `b` at its offset 0x0200. -/
def banked (kind code ram : Byte) (banks : Nat) : Image :=
  { size := banks * 0x4000
    cells := [(0x147, kind), (0x148, code), (0x149, ram)] ++
      (List.range banks).map fun b => (b * 0x4000 + 0x200, BitVec.ofNat 8 b) }

/-- What is seen of the block that powers on. -/
def powered {α : Type} (h : Supply) (see : State → α) : Option α :=
  match powerOn h with
  | .ok s => some (see s)
  | .error _ => none

/-- V240. -/
theorem test_V240_mbc1_modulo :
    powered { cartridge := some (banked 0x01 1 0 4) } (fun s => (s.write 0x2000 0x05).read 0x4200) = some 0x01 := by decide

/-- V246. -/
theorem test_V246_mbc5_bit8 :
    powered { cartridge := some (banked 0x19 1 0 4) } (fun s =>
      let t := (s.write 0x2000 0x03).write 0x3000 0x01
      (t.read 0x4200, t.bus.cart.romBank)) = some (0x03, 259) := by decide

/-- V251, 2 KiB of RAM: past its end reads 0xFF. -/
theorem test_V251_small_ram :
    powered { cartridge := some (banked 0x02 0 1 2) } (fun s =>
      let t := ((s.write 0x0000 0x0A).write 0xA7FF 0x11).write 0xA800 0x22
      (t.read 0xA7FF, t.read 0xA800)) = some (0x11, 0xFF) := by decide

/-- E4 (spec/20_memory.md R116). -/
theorem test_E4_header_info :
    headerInfo { size := 0x8000, cells := (List.range 7).map (0x134 + ·) |>.zip [0x54, 0x45, 0x53, 0x54, 0x52, 0x4F, 0x4D] } =
    some ([0x54, 0x45, 0x53, 0x54, 0x52, 0x4F, 0x4D], "MBC0/ROM ONLY", "32 KiB (2 ROM banks, No Banking)", "No RAM") := by
  decide

/-! ### The whole step -/

/-- Whether a step answers a next state, and what is seen of it. -/
def stepped {α : Type} (s : State) (see : State → α) : Option α :=
  match step s with
  | .next t => some (see t)
  | .fault _ => none
  | .refused _ => none

/-- E3, its first step, as the first instruction after reset: LD A,0x00 at 0x0100. -/
theorem test_E3_first_step :
    stepped (State.reset.withFetchWord 16 0x003E) (fun t => (t.cpu.a, t.cpu.pc, t.cpu.cost, t.frameCycles, t.ppu.dots, t.divAcc)) =
    some (0x00, 0x0102, 8, 8, 8, 8) := by decide

/-- V223: LDH (0x04),A, then the timer step of the iteration. -/
theorem test_V223_div_write :
    stepped { (start [(0xC000, 0xE0), (0xC001, 0x04)] { Cpu.postBoot with pc := 0xC000 } (fun b => { b with div := 0x55 })) with
      divAcc := 250 } (fun t => (t.cpu.cost, t.bus.div, t.divAcc)) = some (12, 0x01, 6) := by decide

/-- The third step of P8, with its illegal opcode in work RAM: the block stops where it is. -/
theorem test_P8_fatal :
    stepped { (start [(0xC102, 0xD3)] { Cpu.postBoot with pc := 0xC102 }) with frameCycles := 8, divAcc := 8 }
      (fun t => (t.cpu.fatal, t.cpu.fatalAddr, t.cpu.pc, t.frameCycles, t.divAcc)) =
    some (true, 0xC102, 0xC102, 8, 8) := by decide

/-! ### Witnesses: for each statement with hypotheses, concrete inputs that meet them -/

theorem next_of_stepped {s : State} (h : stepped s (fun _ => ()) = some ()) : ∃ t, step s = .next t := by
  unfold stepped at h
  split at h
  next t ht => exact ⟨t, ht⟩
  next => exact nomatch h
  next => exact nomatch h

theorem ok_of_powered {h : Supply} {see : State → Bool} (k : powered h see = some true) :
    ∃ s, powerOn h = .ok s ∧ see s = true := by
  unfold powered at k
  split at k
  next s hs => exact ⟨s, hs, Option.some.inj k⟩
  next => exact nomatch k

theorem witness_DecodeOfEncode : (Instr.ld_a_atA16 0xFFFF).wf = true ∧ (Instr.illegal 0xFD).wf = true := by decide

theorem witness_IllegalOpcodes : decode3 0xD3 0 0 = .illegal 0xD3 ∧ decode3 0xFD 0xFF 0xFF = .illegal 0xFD := ⟨rfl, rfl⟩

theorem witness_RegistersPairsAndFlags : (Rp2.hl, Rp.hl) ∈ [(Rp2.bc, Rp.bc), (Rp2.de, Rp.de), (Rp2.hl, Rp.hl)] := by decide

theorem witness_PushAndPop : (Rp2.bc, Rp.bc) ∈ [(Rp2.bc, Rp.bc), (Rp2.de, Rp.de), (Rp2.hl, Rp.hl)] := by decide

theorem witness_RotatesAndShifts : (RotOp.rr, Instr.rra, (0x1F : Byte)) ∈
    [(RotOp.rlc, Instr.rlca, 0x07), (.rrc, .rrca, 0x0F), (.rl, .rla, 0x17), (.rr, .rra, 0x1F)] := by simp

/-- The two settings of `StopBehaviour`, and a halted CPU whose only IF bits are 7 to 5. -/
theorem witness_SystemInstructions :
    State.reset.config.stopBehaviour = .nop2 ∧ (start [] Cpu.postBoot id { stopBehaviour := .fatal }).config.stopBehaviour = .fatal ∧
    (let s := start [] { Cpu.postBoot with halted := true } (fun b => { b with ifr := 0xE0 });
      s.cpu.fatal = false ∧ s.cpu.halted = true ∧ s.bus.ifr &&& 0x1F = 0) := by decide

/-- The extended opcode 0x37 at PC, implemented and not. -/
theorem witness_ExtendedPrefix :
    (let s := start [(0xC000, 0x37)] { Cpu.postBoot with pc := 0xC000 };
      s.implements .extended (s.read s.cpu.pc) = true) ∧
    (let s := start [(0xC000, 0x37)] { Cpu.postBoot with pc := 0xC000 } id { notImplemented := [(.extended, 0x37)] };
      s.implements .extended (s.read s.cpu.pc) = false) := by decide

theorem witness_DecimalAdjustGivesDecimalResult :
    (start [] { Cpu.postBoot with a := 0x99 }).cpu.a = packedDecimal 99 ∧ (99 < 100) ∧ (0 < 100) := by decide

/-- Reset fetches, within a frame and at its start. -/
theorem witness_StepRunsDecodedInstruction :
    (let u := State.reset.openFrame;
      State.reset.cpu.fatal = false ∧ Fetches u ∧ u.implementsNext = true ∧
      decode [u.read u.cpu.pc, u.read (u.cpu.pc + 1), u.read (u.cpu.pc + 2)] = .ok (.nop, [0, 0])) ∧
    (let u := State.openFrame { State.reset with frameCycles := 70223 };
      Fetches u ∧ u.implementsNext = true) := by
  refine ⟨⟨rfl, ⟨rfl, rfl, by decide⟩, by decide, rfl⟩, ⟨rfl, rfl, by decide⟩, by decide⟩

/-- Halted with bit 4 of IF, halted with none of bits 4:0, and not halted with nothing due. -/
theorem witness_HaltWakeAndIdle :
    (let s := start [] { Cpu.postBoot with halted := true } (fun b => { b with ifr := 0x10 });
      s.cpu.fatal = false ∧ s.cpu.halted = true ∧ s.bus.ifr &&& 0x1F ≠ 0) ∧
    (let s := start [] { Cpu.postBoot with halted := true } (fun b => { b with ifr := 0x20 });
      s.cpu.fatal = false ∧ s.cpu.halted = true ∧ s.bus.ifr &&& 0x1F = 0) ∧
    (let s := State.reset; s.cpu.fatal = false ∧ s.cpu.halted = false ∧ ¬(s.cpu.ime = true ∧ s.pending ≠ 0)) := by decide

/-- The interrupts 0 and 4, the latter with the lower ones requested but not enabled. -/
theorem witness_InterruptDispatch :
    (let s := start [] { Cpu.postBoot with ime := true } (fun b => { b with ifr := 0x1F, ie := 0x1F });
      s.cpu.fatal = false ∧ s.cpu.ime = true ∧ 0 < 5 ∧ bitOf s.bus.ifr 0 = true ∧ bitOf s.bus.ie 0 = true) ∧
    (let s := start [] { Cpu.postBoot with ime := true, halted := true } (fun b => { b with ifr := 0xFF, ie := 0x10 });
      s.cpu.fatal = false ∧ s.cpu.ime = true ∧ 4 < 5 ∧ bitOf s.bus.ifr 4 = true ∧ bitOf s.bus.ie 4 = true ∧
      ∀ m < 4, (bitOf s.bus.ifr m && bitOf s.bus.ie m) = false) := by decide

/-- A state whose CPU is at the bytes given, in work RAM, in the middle of a frame. -/
def atCode (b0 b1 : Byte) (config : Config := {}) : State :=
  { (start [(0xC000, b0), (0xC001, b1)] { Cpu.postBoot with pc := 0xC000 } id config) with frameCycles := 4 }

/-- An illegal opcode, one that is not implemented in each table, a prefix that is not, a prefix before an opcode that only the
primary table lacks, STOP under `Fatal`, and a state with the mark. -/
theorem witness_FatalDecodeOutcome :
    (let u := (atCode 0xFD 0x01).openFrame; Fetches u ∧ u.read u.cpu.pc ∈ illegalOpcodes) ∧
    (let u := (atCode 0x3C 0x01 { notImplemented := [(.primary, 0x3C)] }).openFrame; Fetches u ∧ u.implementsNext = false) ∧
    (let u := (atCode 0xCB 0x37 { notImplemented := [(.extended, 0x37)] }).openFrame; Fetches u ∧ u.implementsNext = false) ∧
    (let u := (atCode 0xCB 0x37 { notImplemented := [(.primary, 0xCB)] }).openFrame; Fetches u ∧ u.implementsNext = false) ∧
    (let u := (atCode 0xCB 0x37 { notImplemented := [(.primary, 0x37)] }).openFrame; Fetches u ∧ u.implementsNext = true) ∧
    (let u := (atCode 0x10 0x01 { stopBehaviour := .fatal }).openFrame;
      Fetches u ∧ u.read u.cpu.pc = 0x10 ∧ u.config.stopBehaviour = .fatal) ∧
    (start [] { Cpu.postBoot with fatal := true }).cpu.fatal = true ∧ (∃ s, powerOn {} = .ok s) := by
  refine ⟨⟨⟨rfl, rfl, by decide⟩, by decide⟩, ⟨⟨rfl, rfl, by decide⟩, by decide⟩, ⟨⟨rfl, rfl, by decide⟩, by decide⟩,
    ⟨⟨rfl, rfl, by decide⟩, by decide⟩, ⟨⟨rfl, rfl, by decide⟩, by decide⟩,
    ⟨⟨rfl, rfl, by decide⟩, by decide, rfl⟩, rfl, _, rfl⟩

/-- A CPU step that is fatal and one that is not, and the counts at the edges of a frame. -/
theorem witness_DriverIteration :
    after (atCode 0xFD 0x01).openFrame (fun t => t.cpu.fatal) = some true ∧
    after (atCode 0x3C 0x01).openFrame (fun t => t.cpu.fatal) = some false ∧
    State.atFrameStart { State.reset with frameCycles := 70223 } = false ∧
    State.atFrameStart { State.reset with frameCycles := 70224 } = true := by decide

theorem witness_RunFrameIsIteratedStep :
    State.reset.cpu.fatal = false ∧ State.reset.atFrameStart = true ∧
    State.atFrameStart { State.reset with frameCycles := 70224 } = true := by decide

/-- The invariant at the end of scanline 153, and with the LCD off at the end of a frame. -/
theorem inv_line153 : (timed .vblank 455 (fun b => { b with ly := 153 }) true).Inv where
  memory := by decide
  banks := ⟨⟨0, rfl⟩, ⟨0, rfl⟩, rfl, rfl, rfl⟩
  dots := by decide
  line := ⟨by decide, by decide⟩
  lcdOff := by decide
  divider := by decide
  frame := ⟨List.length_replicate, fun _ h => (List.eq_of_mem_replicate h) ▸ List.length_replicate⟩
  count := by decide

theorem inv_lcdOff : State.Inv { (timed .hblank 0 (fun b => { b with lcdc := 0x11 })) with frameCycles := 70247, divAcc := 255 } where
  memory := by decide
  banks := ⟨⟨0, rfl⟩, ⟨0, rfl⟩, rfl, rfl, rfl⟩
  dots := by decide
  line := by show 0 ≤ 143; decide
  lcdOff := fun _ => rfl
  divider := by decide
  frame := ⟨List.length_replicate, fun _ h => (List.eq_of_mem_replicate h) ▸ List.length_replicate⟩
  count := by decide

theorem witness_StepKeepsInvariant :
    (∃ s : State, s.Inv ∧ s.bus.ly = 153 ∧ ∃ t, step s = .next t) ∧ (∃ s : State, s.Inv ∧ s.bus.lcdc = 0x11 ∧ ∃ t, step s = .next t) :=
  ⟨⟨_, inv_line153, rfl, next_of_stepped (by decide)⟩, ⟨_, inv_lcdOff, rfl, next_of_stepped (by decide)⟩⟩

/-- A supply with everything in it: a boot ROM, a battery cartridge with RAM, and a save file. -/
def fullSupply : Supply :=
  { cartridge := some (banked 0x03 8 4 2), bootRom := .image (List.replicate 256 0x31), saveRam := some [0x12, 0x34] }

theorem fullSupply_ok : ∃ s, powerOn fullSupply = .ok s ∧ s.bus.bootLatch = true :=
  ok_of_powered (see := fun s => s.bus.bootLatch) (by decide)

theorem witness_PowerOnMeetsInvariant :
    (∃ s, powerOn {} = .ok s ∧ s.bus.bootLatch = false) ∧ (∃ s, powerOn fullSupply = .ok s ∧ s.bus.bootLatch = true) :=
  ⟨⟨_, rfl, rfl⟩, fullSupply_ok⟩

theorem witness_ImmutableParts : State.reset.bus.cart.Legal ∧ ∃ t, step State.reset = .next t :=
  ⟨⟨⟨0, rfl⟩, ⟨0, rfl⟩, rfl, rfl, rfl⟩, next_of_stepped (by decide)⟩

/-- The latch set, with addresses at the edge of the overlay, and a step that keeps it. -/
theorem witness_BootLatchAndOverlay :
    (Bus.bootRom [] Cart.blank).bootLatch = true ∧ (0x00FF : Word).toNat < 0x100 ∧ 0x100 ≤ (0x0100 : Word).toNat ∧
    (0x7FFF : Word).toNat < 0x8000 ∧
    stepped { State.reset with cpu := Cpu.bootRom, bus := Bus.bootRom [] Cart.blank } (fun t => t.bus.bootLatch) = some true := by
  decide

theorem witness_InstructionFrame : (∃ t, exec .halt State.reset = .next t) ∧ (∃ t, exec .reti State.reset = .next t) :=
  ⟨⟨_, rfl⟩, ⟨_, rfl⟩⟩

theorem witness_EveryInstructionCompletes : State.reset.cpu.fatal = false := rfl

/-- PUSH BC: the byte below the two it stores, and the byte above them. INC A: nothing stored, any address. -/
theorem witness_StoresAreTheOnlyMemoryChange :
    let s := start [] { Cpu.postBoot with sp := 0xDFFE };
    s.bus.cart.Legal ∧ (∃ t, exec .push_bc s = .next t) ∧ storesOf .inc_a s = [] ∧
    (∀ x ∈ storesOf .push_bc s, touches s.config.echoRam x.1 0xDFFB = false) ∧
    (∀ x ∈ storesOf .push_bc s, touches s.config.echoRam x.1 0xDFFE = false) := by
  have pair {p q : Word × Byte} {P : Word × Byte → Prop} (hp : P p) (hq : P q) : ∀ x ∈ [p, q], P x := fun x hx => by
    rcases List.mem_cons.mp hx with h | h
    · exact h ▸ hp
    · exact List.mem_singleton.mp h ▸ hq
  exact ⟨⟨⟨0, rfl⟩, ⟨0, rfl⟩, rfl, rfl, rfl⟩, ⟨_, rfl⟩, rfl, pair (by decide) (by decide), pair (by decide) (by decide)⟩

theorem witness_HardwareInterruptRequests : bitOf State.reset.bus.ifr 7 = true ∧ 2 ≤ 7 := by decide

theorem witness_CanonicalMemory : Memory.wf [(0xC000, 1)] ∧ Memory.wf [(0xFF02, 0)] := by decide

/-- Beside a control write, LCDC, DMA, BOOT, a plain byte and its echo. -/
theorem witness_BusWriteFrame :
    State.reset.bus.cart.Legal ∧ touches false 0x7FFF 0x3FFF = false ∧ touches false 0x0000 0x8000 = false ∧
    touches false 0xFF40 0xFF45 = false ∧ touches false 0xFF46 0xFDFF = false ∧ touches false 0xFF46 0xFEA0 = false ∧
    touches false 0xFF50 0x0100 = false ∧ touches true 0xDDFF 0xFDFE = false ∧ touches false 0xC000 0xE000 = false :=
  ⟨⟨⟨0, rfl⟩, ⟨0, rfl⟩, rfl, rfl, rfl⟩, by decide⟩

/-- The first and the last address of each array, and two of the I/O block beside named registers. -/
theorem witness_PlainStorage :
    (∀ a ∈ ([0x8000, 0x9FFF] : List Word), 0x8000 ≤ a.toNat ∧ a.toNat < 0xA000) ∧
    (∀ a ∈ ([0xC000, 0xDFFF] : List Word), 0xC000 ≤ a.toNat ∧ a.toNat < 0xE000) ∧
    (∀ a ∈ ([0xFE00, 0xFE9F] : List Word), 0xFE00 ≤ a.toNat ∧ a.toNat < 0xFEA0) ∧
    (∀ a ∈ ([0xFF80, 0xFFFE] : List Word), 0xFF80 ≤ a.toNat ∧ a.toNat < 0xFFFF) ∧
    (∀ a ∈ ([0xFF01, 0xFF7F] : List Word), 0xFF00 ≤ a.toNat ∧ a.toNat < 0xFF80 ∧ a.toNat ∉ [0xFF00, 0xFF04, 0xFF0F, 0xFF40,
      0xFF41, 0xFF42, 0xFF43, 0xFF44, 0xFF45, 0xFF46, 0xFF47, 0xFF48, 0xFF49, 0xFF4A, 0xFF4B, 0xFF50]) := by simp

/-- The edges of the gap and of the echo range, under both settings. -/
theorem witness_UnmappedAddressesAndEcho :
    (∀ a ∈ ([0xFEA0, 0xFEFF] : List Word), 0xFEA0 ≤ a.toNat ∧ a.toNat < 0xFF00) ∧
    (∀ a ∈ ([0xE000, 0xFDFF] : List Word), 0xE000 ≤ a.toNat ∧ a.toNat < 0xFE00) := by simp

theorem witness_OamDma : (0 < 160) ∧ (159 < 160) ∧ ¬(0xFE00 ≤ 0xFDFF ∧ 0xFDFF < 0xFEA0) ∧ ¬(0xFE00 ≤ 0xFEA0 ∧ 0xFEA0 < 0xFEA0) := by
  decide

theorem witness_BankControlWrites : ∀ a ∈ ([0x0000, 0x1FFF, 0x2000, 0x2FFF, 0x3000, 0x3FFF, 0x4000, 0x5FFF, 0x6000, 0x7FFF] : List Word),
    a.toNat < 0x8000 := by simp

/-- A bank controller of each kind of window: closed by family, by the enable, without RAM, past the RAM, and open. -/
theorem witness_BankWindows :
    (let c := Cart.blank; c.family = .romOnly ∧ c.Legal) ∧
    (let c : Cart := { Cart.blank with family := .mbc1, ramSize := 0x800, ramBanks := 1 };
      c.ramEnabled = false ∧ c.Legal ∧ c.ramBanks ≠ 0) ∧
    (let c : Cart := { Cart.blank with family := .mbc5, ramEnabled := true }; c.ramBanks = 0 ∧ c.Legal) ∧
    (let c : Cart := { Cart.blank with family := .mbc3, ramEnabled := true, ramSize := 0x800, ramBanks := 1 };
      c.Legal ∧ c.family ≠ .romOnly ∧ c.ramSize ≤ (c.ramBank.toNat % c.ramBanks) * 0x2000 + (0xA800 - 0xA000) ∧
      (c.ramBank.toNat % c.ramBanks) * 0x2000 + (0xA7FF - 0xA000) < c.ramSize) := by
  refine ⟨⟨rfl, ⟨0, rfl⟩, ⟨0, rfl⟩, rfl, rfl, rfl⟩, ⟨rfl, ⟨⟨0, rfl⟩, ⟨1, rfl⟩, by decide, by decide, by decide⟩, by decide⟩,
    ⟨rfl, ⟨0, rfl⟩, ⟨0, rfl⟩, trivial⟩, ⟨⟨0, rfl⟩, ⟨1, rfl⟩, by decide, by decide, by decide⟩, by decide, by decide, by decide⟩

theorem witness_PpuStepAdditive : bitOf State.reset.bus.lcdc 7 = true := by decide

/-- Each phase at its last cycle, on its first and its last scanline. -/
theorem witness_PpuLineAndFramePeriod :
    PpuRuns (timed .oamSearch 79) ∧ PpuRuns (timed .transfer 171 (fun b => { b with ly := 143 })) ∧
    PpuRuns (timed .hblank 203 (fun b => { b with ly := 143 })) ∧ PpuRuns (timed .hblank 0) ∧
    PpuRuns (timed .vblank 455 (fun b => { b with ly := 144 })) ∧ PpuRuns (timed .vblank 0 (fun b => { b with ly := 153 })) := by
  refine ⟨⟨by decide, by decide, ?_⟩, ⟨by decide, by decide, ?_⟩, ⟨by decide, by decide, ?_⟩, ⟨by decide, by decide, ?_⟩,
    ⟨by decide, by decide, by decide, by decide⟩, ⟨by decide, by decide, by decide, by decide⟩⟩
  all_goals simp [Mode.fitsLine, timed, State.reset, Bus.postBoot]

/-- Each transition: the accumulator and the cycles that bring it about, and one cycle fewer. -/
theorem witness_PpuPhaseTransitions :
    (let s := timed .oamSearch 79; PpuRuns s ∧ 1 ≤ 24 ∧ 80 ≤ s.ppu.dots + 1 ∧ s.ppu.dots + 0 < s.ppu.mode.length) ∧
    (let s := timed .transfer 171; PpuRuns s ∧ 172 ≤ s.ppu.dots + 24) ∧
    (let s := timed .hblank 203; PpuRuns s ∧ 204 ≤ s.ppu.dots + 1 ∧ s.bus.ly.toNat ≠ 143) ∧
    (let s := timed .hblank 203 (fun b => { b with ly := 143 }); PpuRuns s ∧ 204 ≤ s.ppu.dots + 24 ∧ s.bus.ly.toNat = 143) ∧
    (let s := timed .vblank 455 (fun b => { b with ly := 152 }); PpuRuns s ∧ 456 ≤ s.ppu.dots + 1 ∧ s.bus.ly.toNat < 153) ∧
    (let s := timed .vblank 455 (fun b => { b with ly := 153 }); PpuRuns s ∧ 456 ≤ s.ppu.dots + 1 ∧ s.bus.ly.toNat = 153) := by
  refine ⟨⟨⟨by decide, by decide, ?_⟩, by decide⟩, ⟨⟨by decide, by decide, ?_⟩, by decide⟩,
    ⟨⟨by decide, by decide, ?_⟩, by decide⟩, ⟨⟨by decide, by decide, ?_⟩, by decide⟩,
    ⟨⟨by decide, by decide, by decide, by decide⟩, by decide⟩, ⟨⟨by decide, by decide, by decide, by decide⟩, by decide⟩⟩
  all_goals simp [Mode.fitsLine, timed, State.reset, Bus.postBoot]

/-- The LCD off, and just on again, at 203 and at 204 cycles. -/
theorem witness_LcdOffFreezesThePpu :
    bitOf (timed .transfer 100 (fun b => { b with lcdc := 0x7F })).bus.lcdc 7 = false ∧
    (let s := timed .hblank 0; bitOf s.bus.lcdc 7 = true ∧ s.ppu.mode = .hblank ∧ s.ppu.dots = 0 ∧ s.bus.ly = 0) := by decide

theorem witness_DividerTimer : State.divAcc { State.reset with divAcc := 255 } < 256 := by decide

/-- The background on and off, the window from its first line and before it, left of its first column and at it. -/
theorem witness_BackgroundAndWindowPixels :
    (let b := State.reset.bus; bitOf b.lcdc 0 = true ∧ b.windowRuns 0 = false) ∧
    (let b := { State.reset.bus with lcdc := 0xB0, wy := 10, wx := 7 };
      bitOf b.lcdc 0 = false ∧ b.windowRuns 10 = true ∧ b.windowRuns 9 = false ∧ b.wx.toNat ≤ 0 + 7) ∧
    (let b := { State.reset.bus with wx := 8 }; 0 + 7 < b.wx.toNat) ∧
    (let s := { State.reset with bus := { State.reset.bus with lcdc := 0xB0, wy := 143, wx := 7 } };
      s.ppu.frame.length = 144 ∧ s.bus.windowRuns 143 = true ∧ s.bus.windowRuns 0 = false ∧
      ∀ ly ∈ [0, 143], ly < 144 ∧ (s.renderLine ly).bus = s.bus) := by
  refine ⟨by decide, by decide, by decide, List.length_replicate, by decide, by decide, ?_⟩
  intro ly h
  have hly : ly = 0 ∨ ly = 143 := by simpa using h
  exact ⟨by omega, rfl⟩

/-- A line of eleven sprites at equal X, an opaque one behind a transparent one, and the edges of a sprite's columns. -/
theorem witness_SpriteSelectionAndDrawing :
    let b : Bus := { Bus.postBoot [(0x8010, 0xF0)] Cart.blank with lcdc := 0x93 }
    let solid : Sprite := ⟨16, 8, 1, 0x90⟩
    let clear : Sprite := ⟨16, 8, 0, 0⟩;
    bitOf b.lcdc 1 = true ∧ bitOf State.reset.bus.lcdc 1 = false ∧ Opaque b 0 0 solid ∧ (∀ q ∈ [clear], ¬Opaque b 0 0 q) ∧
    (solid.x.toNat ≤ 0 + 8 ∧ 0 < solid.x.toNat) ∧ (solid.x.toNat ≤ 7 + 8 ∧ 7 < solid.x.toNat) := by
  refine ⟨by decide, by decide, ⟨by decide, by decide, by decide⟩, ?_, by decide, by decide⟩
  intro q hq h
  rw [List.mem_singleton] at hq
  subst hq
  exact h.2.2 (by decide)

/-- A boot ROM image and a missing file, each with a cartridge that is accepted. -/
theorem witness_BootRomReset :
    (fullSupply.bootRom = .image (List.replicate 256 0x31) ∧ (List.replicate 256 (0x31 : Byte)).length = 256 ∧
      isRamArray 0x8000 = true ∧ isIoBlock 0xFF7F = true ∧ ∃ s, powerOn fullSupply = .ok s ∧ s.bus.bootLatch = true) ∧
    (∃ s, powerOn { bootRom := .missingFile } = .ok s ∧ s.bus.bootLatch = true) :=
  ⟨⟨rfl, List.length_replicate, by decide, by decide, fullSupply_ok⟩, ok_of_powered (see := fun s => s.bus.bootLatch) (by decide)⟩

/-- The codes 8 and 9, a battery cartridge with RAM and a save file, and one without. -/
theorem witness_CartridgeAndSaveRamAreLoaded :
    ((banked 0 9 0 2).byte 0x0148).toNat = 9 ∧ ((banked 0 8 0 2).byte 0x0148).toNat = 8 ∧
    (fullSupply.saveRam = some [0x12, 0x34] ∧
      ∃ s, powerOn fullSupply = .ok s ∧ (s.bus.cart.battery && decide (0 < s.bus.cart.ramSize)) = true) ∧
    (∃ s, powerOn { cartridge := some (banked 0x02 0 3 2) } = .ok s ∧
      (!s.bus.cart.battery && decide (0 < s.bus.cart.ramSize)) = true) ∧
    (controllerRows.lookup 0x1F = none ∧ ramSizeRows.lookup 0x06 = none ∧
      Warning.unknownController 0x1F ∈ (banked 0x1F 0 6 2).warnings ∧
      Warning.unknownRamSize 0x06 ∈ (banked 0x1F 0 6 2).warnings ∧
      Warning.unknownController 0x1E ∉ (banked 0x1E 0 5 2).warnings) :=
  ⟨by decide, by decide,
    ⟨rfl, ok_of_powered (see := fun s => s.bus.cart.battery && decide (0 < s.bus.cart.ramSize)) (by decide)⟩,
    ok_of_powered (see := fun s => !s.bus.cart.battery && decide (0 < s.bus.cart.ramSize)) (by decide),
    by decide⟩

end Sys2Proof.Tests
end

namespace Sys2Proof.Machine

/-! ### How an instruction completes

Most instructions leave IME, `halted` and the fatal mark alone and charge a cost from 4 to 24; `changesModes` lists the
few that do not. -/

/-- IME, `halted` and the fatal mark are in `t` as in `s`. -/
structure SameModes (s t : State) : Prop where
  ime : t.cpu.ime = s.cpu.ime
  halted : t.cpu.halted = s.cpu.halted
  fatal : t.cpu.fatal = s.cpu.fatal

namespace SameModes

variable {s t : State}

theorem refl (s : State) : SameModes s s := ⟨rfl, rfl, rfl⟩

theorem setFlags (h : SameModes s t) (f : Flags) : SameModes s (t.setFlags f) := ⟨h.ime, h.halted, h.fatal⟩

theorem setPc (h : SameModes s t) (w : Word) : SameModes s (t.setPc w) := ⟨h.ime, h.halted, h.fatal⟩

theorem setSp (h : SameModes s t) (w : Word) : SameModes s (t.setSp w) := ⟨h.ime, h.halted, h.fatal⟩

theorem dropTop (h : SameModes s t) : SameModes s t.dropTop := ⟨h.ime, h.halted, h.fatal⟩

theorem write (h : SameModes s t) (a : Word) (v : Byte) : SameModes s (t.write a v) := ⟨h.ime, h.halted, h.fatal⟩

theorem push16 (h : SameModes s t) (w : Word) : SameModes s (t.push16 w) := ⟨h.ime, h.halted, h.fatal⟩

theorem setReg (h : SameModes s t) (r : R8) (v : Byte) : SameModes s (t.setReg r v) :=
  ⟨(t.cpu.setReg_ime r v).trans h.ime, (t.cpu.setReg_halted r v).trans h.halted, (t.cpu.setReg_fatal r v).trans h.fatal⟩

theorem setPair (h : SameModes s t) (p : Rp) (w : Word) : SameModes s (t.setCpu (t.cpu.setPair p w)) :=
  ⟨(t.cpu.setPair_ime p w).trans h.ime, (t.cpu.setPair_halted p w).trans h.halted,
    (t.cpu.setPair_fatal p w).trans h.fatal⟩

theorem setHl (h : SameModes s t) (w : Word) : SameModes s (t.setCpu (t.cpu.setHl w)) := h.setPair .hl w

theorem setStackPair (h : SameModes s t) (p : Rp2) (w : Word) : SameModes s (t.setCpu (t.cpu.setStackPair p w)) :=
  ⟨(t.cpu.setStackPair_ime p w).trans h.ime, (t.cpu.setStackPair_halted p w).trans h.halted,
    (t.cpu.setStackPair_fatal p w).trans h.fatal⟩

theorem writeLoc (h : SameModes s t) (x : Loc) (v : Byte) : SameModes s (t.writeLoc x v) := by
  cases x with
  | reg r => exact h.setReg r v
  | atHL => exact h.write _ v

theorem afterAccess (h : SameModes s t) (m : Addr) : SameModes s (t.afterAccess m) := by
  cases m with
  | hlInc | hlDec => exact h.setHl _
  | _ => exact h

end SameModes

/-- The costs an instruction can have (spec/60_exceptions.md R350). -/
abbrev IsCost (n : Nat) : Prop := 4 ≤ n ∧ n ≤ 24 ∧ n % 4 = 0

/-- The answer of an instruction that completes with a cost and leaves the mode bits alone. -/
def Completes (s : State) (r : Result) : Prop := ∃ t, r = .next t ∧ SameModes s t ∧ IsCost t.cpu.cost

theorem completes_done {s t : State} {n : Nat} (h : SameModes s t) (hn : IsCost n) : Completes s (done n t) :=
  ⟨t.charge n, rfl, ⟨h.ime, h.halted, h.fatal⟩, hn⟩

theorem completes_ite {s : State} {q r : Result} {p : Prop} [Decidable p] (hq : Completes s q) (hr : Completes s r) :
    Completes s (if p then q else r) := by
  split
  · exact hq
  · exact hr

theorem Src.isCost_cost : ∀ x : Src, IsCost x.cost
  | .reg _ => (by decide : IsCost 4)
  | .atHL | .imm _ => (by decide : IsCost 8)

theorem Loc.isCost_incCost : ∀ x : Loc, IsCost x.incCost
  | .reg _ => (by decide : IsCost 4)
  | .atHL => (by decide : IsCost 12)

theorem Loc.isCost_extCost : ∀ x : Loc, IsCost x.extCost
  | .reg _ => (by decide : IsCost 8)
  | .atHL => (by decide : IsCost 16)

theorem Loc.isCost_bitCost : ∀ x : Loc, IsCost x.bitCost
  | .reg _ => (by decide : IsCost 8)
  | .atHL => (by decide : IsCost 12)

theorem Addr.isCost_cost : ∀ m : Addr, IsCost m.cost
  | .abs _ => (by decide : IsCost 16)
  | .high _ => (by decide : IsCost 12)
  | .bc | .de | .hlInc | .hlDec | .highC => (by decide : IsCost 8)

theorem completes_rotLoc (op : RotOp) (x : Loc) (s : State) : Completes s (rotLoc op x s) :=
  completes_done (((SameModes.refl s).writeLoc x _).setFlags _) x.isCost_extCost
theorem completes_bitLoc (b : BitIdx) (x : Loc) (s : State) : Completes s (bitLoc b x s) :=
  completes_done ((SameModes.refl s).setFlags _) x.isCost_bitCost
theorem completes_resLoc (b : BitIdx) (x : Loc) (s : State) : Completes s (resLoc b x s) :=
  completes_done ((SameModes.refl s).writeLoc x _) x.isCost_extCost
theorem completes_setLoc (b : BitIdx) (x : Loc) (s : State) : Completes s (setLoc b x s) :=
  completes_done ((SameModes.refl s).writeLoc x _) x.isCost_extCost

theorem completes_extendedOp (cbop : Byte) (s : State) : Completes s (extendedOp cbop s) := by
  unfold extendedOp
  dsimp only
  split
  · exact completes_rotLoc _ _ s
  · exact completes_bitLoc _ _ s
  · exact completes_resLoc _ _ s
  · exact completes_setLoc _ _ s

/-- The instructions that set a mode bit or can end in the fatal outcome. -/
def changesModes : Instr → Bool
  | .reti | .stop _ | .halt | .di | .ei | .illegal _ | .prefixCB => true
  | _ => false

/-- Every instruction but those of `changesModes` completes and leaves the mode bits alone. -/
theorem exec_completes (i : Instr) (s : State) (h : changesModes i = false) : Completes s (exec i s) := by
  revert i
  have same := SameModes.refl s
  apply Instr_by_shape
  case h_ldRegReg => intro dst r _; rw [exec_ldRegRegI]; exact completes_done (same.setReg dst _) (by decide)
  case h_ldRegImm => intro n dst _; rw [exec_ldRegImmI]; exact completes_done (same.setReg dst n) (by decide)
  case h_ldRegMem => intro dst _; rw [exec_ldRegMemI]; exact completes_done (same.setReg dst _) (by decide)
  case h_ldMemReg => intro r _; rw [exec_ldMemRegI]; exact completes_done (same.write _ _) (by decide)
  case h_ldMemImm => intro n _; exact completes_done (same.write _ n) (by decide)
  case h_loadA => intro m _; rw [exec_loadAI]; exact completes_done ((same.setReg .a _).afterAccess m) m.isCost_cost
  case h_storeA => intro m _; rw [exec_storeAI]; exact completes_done ((same.write _ _).afterAccess m) m.isCost_cost
  case h_ldPairImm => intro n p _; rw [exec_ldPairImmI]; exact completes_done (same.setPair p n) (by decide)
  case h_ldMemSp => intro n _; exact completes_done ((same.write n _).write (n + 1) _) (by decide)
  case h_ldSpHl => intro _; exact completes_done (same.setSp _) (by decide)
  case h_ldHlSp => intro n _; exact completes_done ((same.setHl _).setFlags _) (by decide)
  case h_push => intro p _; rw [exec_pushI]; exact completes_done (same.push16 _) (by decide)
  case h_pop => intro p _; rw [exec_popI]; exact completes_done (same.dropTop.setStackPair p _) (by decide)
  case h_alu => intro op x _; rw [exec_aluI]; exact completes_done ((same.setReg .a _).setFlags _) x.isCost_cost
  case h_inc => intro x _; rw [exec_incI]; exact completes_done ((same.writeLoc x _).setFlags _) x.isCost_incCost
  case h_dec => intro x _; rw [exec_decI]; exact completes_done ((same.writeLoc x _).setFlags _) x.isCost_incCost
  case h_daa | h_cpl => intro _; exact completes_done ((same.setReg .a _).setFlags _) (by decide)
  case h_scf | h_ccf => intro _; exact completes_done (same.setFlags _) (by decide)
  case h_addHl => intro p _; rw [exec_addHlI]; exact completes_done ((same.setHl _).setFlags _) (by decide)
  case h_incPair => intro p _; rw [exec_incPairI]; exact completes_done (same.setPair p _) (by decide)
  case h_decPair => intro p _; rw [exec_decPairI]; exact completes_done (same.setPair p _) (by decide)
  case h_addSp => intro n _; exact completes_done ((same.setSp _).setFlags _) (by decide)
  case h_rlca | h_rrca | h_rla | h_rra => intro _; exact completes_done ((same.setReg .a _).setFlags _) (by decide)
  case h_rot => intro op x _; rw [exec_rotI]; exact completes_rotLoc op x s
  case h_bit => intro b x _; rw [exec_bitI]; exact completes_bitLoc b x s
  case h_res => intro b x _; rw [exec_resI]; exact completes_resLoc b x s
  case h_set => intro b x _; rw [exec_setI]; exact completes_setLoc b x s
  case h_jp => intro n _; exact completes_done (same.setPc n) (by decide)
  case h_jpIf =>
    intro n cc _
    rw [exec_jpIfI]
    exact completes_ite (completes_done (same.setPc n) (by decide)) (completes_done same (by decide))
  case h_jpHl => intro _; exact completes_done (same.setPc _) (by decide)
  case h_jr => intro n _; exact completes_done (same.setPc _) (by decide)
  case h_jrIf =>
    intro n cc _
    rw [exec_jrIfI]
    exact completes_ite (completes_done (same.setPc _) (by decide)) (completes_done same (by decide))
  case h_call => intro n _; exact completes_done ((same.push16 _).setPc n) (by decide)
  case h_callIf =>
    intro n cc _
    rw [exec_callIfI]
    exact completes_ite (completes_done ((same.push16 _).setPc n) (by decide)) (completes_done same (by decide))
  case h_ret => intro _; exact completes_done (same.dropTop.setPc _) (by decide)
  case h_retIf =>
    intro cc _
    rw [exec_retIfI]
    exact completes_ite (completes_done (same.dropTop.setPc _) (by decide)) (completes_done same (by decide))
  case h_rst => intro t _; rw [exec_rstI]; exact completes_done ((same.push16 _).setPc _) (by decide)
  case h_nop => intro _; exact completes_done same (by decide)
  case h_reti | h_halt | h_di | h_ei | h_prefixCB => intro h; exact nomatch h
  case h_stop | h_illegal => intro _ h; exact nomatch h

/-- IME after an instruction, from IME before it. -/
def imeAfter (i : Instr) (ime : Bool) : Bool :=
  match i with
  | .ei => true
  | .reti => true
  | .di => false
  | _ => ime

/-- `halted` after an instruction, from `halted` before it. -/
def haltedAfter (i : Instr) (halted : Bool) : Bool :=
  match i with
  | .halt => true
  | _ => halted

theorem imeAfter_of_not_changesModes {i : Instr} (h : changesModes i = false) (ime : Bool) : imeAfter i ime = ime := by
  unfold imeAfter
  split
  case h_4 => rfl
  all_goals exact nomatch h

theorem haltedAfter_of_not_changesModes {i : Instr} (h : changesModes i = false) (halted : Bool) :
    haltedAfter i halted = halted := by
  unfold haltedAfter
  split
  · exact nomatch h
  · rfl

/-- The end of an instruction: the mode bits after it, and either a cost with the fatal mark as it was, or the mark set
and nothing stored. -/
structure Ends (i : Instr) (s t : State) : Prop where
  ime : t.cpu.ime = imeAfter i s.cpu.ime
  halted : t.cpu.halted = haltedAfter i s.cpu.halted
  outcome : (t.cpu.fatal = s.cpu.fatal ∧ IsCost t.cpu.cost) ∨ (t.cpu.fatal = true ∧ storesOf i s = [])

theorem Completes.ends {i : Instr} {s u : State} {r : Result} (h : Completes u r) (hu : SameModes s u)
    (hi : imeAfter i s.cpu.ime = s.cpu.ime) (hh : haltedAfter i s.cpu.halted = s.cpu.halted) :
    ∃ t, r = .next t ∧ Ends i s t := by
  obtain ⟨t, hr, hm, hc⟩ := h
  exact ⟨t, hr, (hm.ime.trans hu.ime).trans hi.symm, (hm.halted.trans hu.halted).trans hh.symm,
    .inl ⟨hm.fatal.trans hu.fatal, hc⟩⟩

theorem ends_done {i : Instr} {s t : State} {n : Nat} (hi : t.cpu.ime = imeAfter i s.cpu.ime)
    (hh : t.cpu.halted = haltedAfter i s.cpu.halted) (hf : t.cpu.fatal = s.cpu.fatal) (hn : IsCost n) :
    ∃ t', done n t = .next t' ∧ Ends i s t' := ⟨t.charge n, rfl, hi, hh, .inl ⟨hf, hn⟩⟩

/-- Every instruction answers a next state, which is an end of it. -/
theorem exec_ends (i : Instr) (s : State) : ∃ t, exec i s = .next t ∧ Ends i s t := by
  cases hi : changesModes i with
  | false =>
    exact (exec_completes i s hi).ends (.refl s) (imeAfter_of_not_changesModes hi _)
      (haltedAfter_of_not_changesModes hi _)
  | true =>
    unfold changesModes at hi
    split at hi
    next => exact ends_done rfl rfl rfl (by decide)
    next ign =>
      show ∃ t, stopOp s = .next t ∧ Ends (.stop ign) s t
      unfold stopOp
      split
      · exact ends_done rfl rfl rfl (by decide)
      · exact ⟨_, rfl, rfl, rfl, .inr ⟨rfl, rfl⟩⟩
    next => exact ends_done rfl rfl rfl (by decide)
    next => exact ends_done rfl rfl rfl (by decide)
    next => exact ends_done rfl rfl rfl (by decide)
    next => exact ⟨_, rfl, rfl, rfl, .inr ⟨rfl, rfl⟩⟩
    next =>
      show ∃ t, prefixOp s = .next t ∧ Ends .prefixCB s t
      unfold prefixOp
      dsimp only
      split
      next => exact (completes_extendedOp _ _).ends ((SameModes.refl s).setPc _) rfl rfl
      next hno => exact ⟨_, rfl, rfl, rfl, .inr ⟨rfl, if_neg hno⟩⟩
    next => exact nomatch hi

/-! ### The addresses an instruction stores at -/

/-- No two stores of the list have the same address. -/
abbrev StoresApart (l : List (Word × Byte)) : Prop := l.Pairwise (fun x y => x.1 ≠ y.1)

theorem State.pushStores_apart (s : State) (w : Word) : StoresApart (s.pushStores w) := by
  simp [State.pushStores]

theorem State.locStores_apart (s : State) (x : Loc) (f : Byte → Byte) :
    StoresApart (s.locStores x f) := by
  cases x with
  | reg r => exact .nil
  | atHL => exact List.pairwise_singleton _ _

theorem State.extendedStores_apart (s : State) (cbop : Byte) : StoresApart (s.extendedStores cbop) := by
  unfold State.extendedStores
  dsimp only
  split
  · exact s.locStores_apart _ _
  · exact .nil
  · exact s.locStores_apart _ _
  · exact s.locStores_apart _ _

theorem storesOf_aluI (op : AluOp) (x : Src) (s : State) : storesOf (aluI op x) s = [] := by
  rcases x with r | _ | n
  · cases op <;> cases r <;> rfl
  · cases op <;> rfl
  · cases op <;> rfl

theorem storesOf_rotI (op : RotOp) (x : Loc) (s : State) :
    storesOf (rotI op x) s = s.locStores x (fun v => (rotExt op v s.cpu.f).1) := by
  rcases x with r | _
  · cases op <;> cases r <;> rfl
  · cases op <;> rfl

theorem storesOf_bitI (b : BitIdx) (x : Loc) (s : State) : storesOf (bitI b x) s = [] := by
  rcases x with r | _
  · cases b <;> cases r <;> rfl
  · cases b <;> rfl

theorem storesOf_resI (b : BitIdx) (x : Loc) (s : State) : storesOf (resI b x) s = s.locStores x (resBit b) := by
  rcases x with r | _
  · cases b <;> cases r <;> rfl
  · cases b <;> rfl

theorem storesOf_setI (b : BitIdx) (x : Loc) (s : State) : storesOf (setI b x) s = s.locStores x (setBit b) := by
  rcases x with r | _
  · cases b <;> cases r <;> rfl
  · cases b <;> rfl

theorem State.pushStores_apart_ite (s : State) (w : Word) (p : Prop) [Decidable p] :
    StoresApart (if p then s.pushStores w else []) := by
  split
  · exact s.pushStores_apart w
  · exact .nil

/-- An instruction never stores twice at one address. -/
theorem storesOf_apart (i : Instr) (s : State) : StoresApart (storesOf i s) := by
  have one (x : Word × Byte) : StoresApart [x] := List.pairwise_singleton _ x
  revert i
  apply Instr_by_shape
  case h_ldRegReg => intro dst r; cases dst <;> cases r <;> exact .nil
  case h_ldRegImm => intro n dst; cases dst <;> exact .nil
  case h_ldRegMem => intro dst; cases dst <;> exact .nil
  case h_ldMemReg => intro r; cases r <;> exact one _
  case h_ldMemImm => intro n; exact one _
  case h_loadA => intro m; cases m <;> exact .nil
  case h_storeA => intro m; cases m <;> exact one _
  case h_ldPairImm => intro n p; cases p <;> exact .nil
  case h_ldMemSp => intro n; exact (one _).cons (by simp)
  case h_push => intro p; cases p <;> exact s.pushStores_apart _
  case h_pop => intro p; cases p <;> exact .nil
  case h_alu => intro op x; rw [storesOf_aluI]; exact .nil
  case h_inc | h_dec =>
    intro x
    rcases x with r | _
    · cases r <;> exact .nil
    · exact one _
  case h_addHl | h_incPair | h_decPair => intro p; cases p <;> exact .nil
  case h_rot => intro op x; rw [storesOf_rotI]; exact s.locStores_apart x _
  case h_bit => intro b x; rw [storesOf_bitI]; exact .nil
  case h_res => intro b x; rw [storesOf_resI]; exact s.locStores_apart x _
  case h_set => intro b x; rw [storesOf_setI]; exact s.locStores_apart x _
  case h_jpIf | h_jrIf => intro n cc; cases cc <;> exact .nil
  case h_call => intro n; exact s.pushStores_apart _
  case h_callIf => intro n cc; cases cc <;> exact s.pushStores_apart_ite _ _
  case h_retIf => intro cc; cases cc <;> exact .nil
  case h_rst => intro t; cases t <;> exact s.pushStores_apart _
  case h_ldHlSp | h_addSp | h_jp | h_jr | h_stop | h_illegal => intro _; exact .nil
  case h_prefixCB =>
    show StoresApart (if _ then s.extendedStores _ else [])
    split
    · exact s.extendedStores_apart _
    · exact .nil
  all_goals exact .nil

/-! ### What a CPU step can do -/

/-- What a CPU step can do: `t` differs from `s` in the CPU core, in IF and by stores at addresses of their own, and the
core ends with a cost of at most 24, or with the fatal mark and the bus as it was. -/
structure CpuStepped (s t : State) : Prop where
  config : t.config = s.config
  ppu : t.ppu = s.ppu
  divAcc : t.divAcc = s.divAcc
  frameCycles : t.frameCycles = s.frameCycles
  bus : ∃ (f : Byte) (l : List (Word × Byte)),
    t.bus = Bus.writeAll s.config.echoRam { s.bus with ifr := f } l ∧ StoresApart l
  ends : (t.cpu.fatal = false ∧ t.cpu.cost ≤ 24) ∨ (t.cpu.fatal = true ∧ t.bus = s.bus)

theorem CpuStepped.cost_le {s t : State} (h : CpuStepped s t) (hf : t.cpu.fatal = false) : t.cpu.cost ≤ 24 := by
  rcases h.ends with ⟨-, hn⟩ | ⟨hf', -⟩
  · exact hn
  · exact nomatch hf.symm.trans hf'

theorem CpuStepped.bus_of_fatal {s t : State} (h : CpuStepped s t) (hf : t.cpu.fatal = true) : t.bus = s.bus := by
  rcases h.ends with ⟨hf', -⟩ | ⟨-, hb⟩
  · exact nomatch hf.symm.trans hf'
  · exact hb

/-- What a CPU step does from another CPU core over the same bus, it does from any. -/
theorem CpuStepped.ofSetCpu {s t : State} {c : Cpu} (h : CpuStepped (s.setCpu c) t) : CpuStepped s t :=
  ⟨h.config, h.ppu, h.divAcc, h.frameCycles, h.bus, h.ends⟩

/-- A CPU step that changes the CPU core only. -/
theorem CpuStepped.setCpu {s : State} {c : Cpu} (h : c.fatal = true ∨ c.fatal = false ∧ c.cost ≤ 24) :
    CpuStepped s (s.setCpu c) :=
  ⟨rfl, rfl, rfl, rfl, ⟨s.bus.ifr, [], rfl, .nil⟩, h.symm.imp_right fun h => ⟨h, rfl⟩⟩

theorem exec_stepped {i : Instr} {s t : State} (hf : s.cpu.fatal = false) (h : exec i s = .next t) :
    CpuStepped s t := by
  obtain ⟨c, hc⟩ := exec_effect i s
  obtain ⟨u, hu, he⟩ := exec_ends i s
  obtain rfl : u = t := Host.Outcome.next.inj (hu.symm.trans h)
  obtain rfl : u = _ := Host.Outcome.next.inj (hu.symm.trans hc)
  refine ⟨rfl, rfl, rfl, rfl, ⟨s.bus.ifr, storesOf i s, rfl, storesOf_apart i s⟩, ?_⟩
  rcases he.outcome with ⟨hk, -, hn, -⟩ | ⟨hk, hs⟩
  · exact .inl ⟨hk.trans hf, hn⟩
  · exact .inr ⟨hk, by rw [hs]; rfl⟩

/-- Taking an interrupt changes IF and pushes PC. -/
theorem State.dispatch_stepped (s : State) (p : Byte) {n : Nat} (hf : s.cpu.fatal = false) (hn : n ≤ 24) :
    CpuStepped s ((s.dispatch p).charge n) where
  config := by simp [State.dispatch]
  ppu := by simp [State.dispatch]
  divAcc := by simp [State.dispatch]
  frameCycles := by simp [State.dispatch]
  bus := by
    refine ⟨s.bus.ifr &&& ~~~((1 : Byte) <<< lowestBit p), s.pushStores s.cpu.pc, ?_, s.pushStores_apart _⟩
    simp [State.dispatch, State.pushStores]
  ends := by simp [State.dispatch, hf, hn]

theorem State.wake_eq (s : State) : ∃ c : Cpu, s.wake = s.setCpu c ∧ c.fatal = s.cpu.fatal := by
  unfold State.wake
  split
  · exact ⟨_, rfl, rfl⟩
  · exact ⟨s.cpu, rfl, rfl⟩

/-- A CPU step from the fatal mark faults; any other does what `CpuStepped` says. -/
theorem cpuStep_cases {s t : State} (h : cpuStep s = .next t) : s.cpu.fatal = false ∧ CpuStepped s t := by
  unfold cpuStep at h
  split at h
  · exact nomatch h
  next hs =>
    have hf : s.cpu.fatal = false := by simpa using hs
    refine ⟨hf, ?_⟩
    obtain ⟨c, hw, hc⟩ := s.wake_eq
    replace hc : c.fatal = false := hc.trans hf
    dsimp only at h
    rw [hw] at h
    apply CpuStepped.ofSetCpu (c := c)
    split at h
    · obtain rfl := Host.Outcome.next.inj h
      exact State.dispatch_stepped _ _ hc (by decide)
    split at h
    · obtain rfl := Host.Outcome.next.inj h
      exact .setCpu (.inr ⟨hc, Nat.le_add_left 4 20⟩)
    unfold fetchExecute at h
    split at h
    · exact (exec_stepped hc h).ofSetCpu
    · obtain rfl := Host.Outcome.next.inj h
      exact .setCpu (.inl rfl)

/-! ### What a step of the block can do -/

/-- The start-of-frame work leaves less than a frame's budget in the count, and changes of the bus the joypad byte at
most. -/
theorem State.openFrame_frame (s : State) :
    s.openFrame.config = s.config ∧ s.openFrame.ppu = s.ppu ∧ s.openFrame.divAcc = s.divAcc ∧
    s.openFrame.bus = { s.bus with joy := s.openFrame.bus.joy } ∧ s.openFrame.frameCycles < frameBudget := by
  unfold State.openFrame
  split
  next => exact ⟨rfl, rfl, rfl, rfl, Nat.zero_lt_succ _⟩
  next h =>
    simp only [State.atFrameStart, Bool.or_eq_true, decide_eq_true_eq, not_or, Nat.not_le] at h
    exact ⟨rfl, rfl, rfl, rfl, h.2⟩

/-- A step is the start-of-frame work, a CPU step, and, unless that was fatal, the tick of the devices. -/
theorem step_cases {s t : State} (h : step s = .next t) :
    ∃ u, CpuStepped s.openFrame u ∧
      ((u.cpu.fatal = true ∧ t = u) ∨ (u.cpu.fatal = false ∧ t = u.tick u.cpu.cost)) := by
  unfold step blockStep at h
  split at h
  · exact nomatch h
  unfold iteration at h
  split at h
  next u hu =>
    refine ⟨u, (cpuStep_cases hu).2, ?_⟩
    split at h
    next hf => exact .inl ⟨hf, (Host.Outcome.next.inj h).symm⟩
    next hf => exact .inr ⟨by simpa using hf, (Host.Outcome.next.inj h).symm⟩
  next => exact nomatch h
  next => exact nomatch h

theorem Bus.writeAll_of_write {P : Bus → Prop} (echo : Bool) (hw : ∀ b a v, P b → P (b.write echo a v))
    (l : List (Word × Byte)) (b : Bus) (h : P b) : P (b.writeAll echo l) := by
  induction l generalizing b with
  | nil => exact h
  | cons x l ih => exact ih _ (hw _ _ _ h)

theorem State.tick_bus (s : State) (c : Nat) :
    (s.tick c).bus = { s.bus with
      stat := (s.tick c).bus.stat, ly := (s.tick c).bus.ly, ifr := (s.tick c).bus.ifr, div := (s.tick c).bus.div } :=
  congrArg (fun b : Bus => { b with div := (s.tick c).bus.div }) (s.ppuStep_frame c).bus

/-- A property of the bus that every write keeps, and that speaks of no register a device sets, is kept by a step. -/
theorem step_bus_of_write {P : Bus → Prop} {s t : State} (h : step s = .next t)
    (hd : ∀ (b : Bus) j f y d st, P b → P { b with joy := j, ifr := f, ly := y, div := d, stat := st })
    (hw : ∀ b a v, P b → P (b.write s.config.echoRam a v)) (hp : P s.bus) : P t.bus := by
  obtain ⟨u, hu, ht⟩ := step_cases h
  obtain ⟨hc, -, -, hb, -⟩ := s.openFrame_frame
  obtain ⟨f, l, hub, -⟩ := hu.bus
  have hpu : P u.bus := by
    rw [hub, hc, hb]
    exact Bus.writeAll_of_write _ hw l _ (hd s.bus _ f s.bus.ly s.bus.div s.bus.stat hp)
  rcases ht with ⟨-, rfl⟩ | ⟨-, rfl⟩
  · exact hpu
  · rw [State.tick_bus]
    exact hd u.bus u.bus.joy _ _ _ _ hpu

theorem step_config {s t : State} (h : step s = .next t) : t.config = s.config := by
  obtain ⟨u, hu, ht⟩ := step_cases h
  have hc : u.config = s.config := hu.config.trans s.openFrame_frame.1
  rcases ht with ⟨-, rfl⟩ | ⟨-, rfl⟩
  · exact hc
  · exact (u.tick_frame _).1.trans hc

/-! ### LY and the writes of the CPU -/

theorem eq_of_namedRegAt_lcdc {a : Word} (h : namedRegAt a.toNat = some .lcdc) : a = 0xFF40 := by
  unfold namedRegAt at h
  split at h
  · exact nomatch h
  split at h
  case h_4 hn => bv_omega
  all_goals exact absurd h (by decide)

/-- LCDC is the only address whose store changes LCDC or LY. -/
theorem Bus.store_ly (echo : Bool) (b : Bus) {a : Word} (v : Byte) (h : a ≠ 0xFF40) :
    (b.store echo a v).lcdc = b.lcdc ∧ (b.store echo a v).ly = b.ly := by
  unfold Bus.store
  split
  · unfold Bus.mbcWrite
    split
    · exact ⟨rfl, rfl⟩
    · split <;> exact ⟨rfl, rfl⟩
  split
  next r hr =>
    cases r with
    | lcdc => exact absurd (eq_of_namedRegAt_lcdc hr) h
    | _ => exact ⟨rfl, rfl⟩
  next => split <;> exact ⟨rfl, rfl⟩

/-- OAM DMA changes nothing but storage. -/
theorem Bus.dmaCopy_eq (echo : Bool) (src : Word) (n i : Nat) (b : Bus) (h : i + n ≤ 160) :
    ∃ m, b.dmaCopy echo src n i = { b with mem := m } := by
  induction n generalizing i b with
  | zero => exact ⟨b.mem, rfl⟩
  | succ n ih =>
    rw [Bus.dmaCopy, Bus.store_oam echo b i _ (by omega)]
    exact ih (i + 1) _ (by omega)

theorem Bus.write_ly (echo : Bool) (b : Bus) {a : Word} (v : Byte) (h : a ≠ 0xFF40) :
    (b.write echo a v).lcdc = b.lcdc ∧ (b.write echo a v).ly = b.ly := by
  unfold Bus.write
  split
  · obtain ⟨m, hm⟩ := (b.store echo a v).dmaCopy_eq echo (w16 v 0) 160 0 (by decide)
    rw [hm]
    exact b.store_ly echo v h
  · exact b.store_ly echo v h

theorem Bus.write_lcdc (echo : Bool) (b : Bus) (v : Byte) : b.write echo 0xFF40 v = b.namedStore .lcdc v := rfl

theorem Bus.writeAll_ly (echo : Bool) (l : List (Word × Byte)) (b : Bus) (h : ∀ x ∈ l, x.1 ≠ 0xFF40) :
    (b.writeAll echo l).lcdc = b.lcdc ∧ (b.writeAll echo l).ly = b.ly := by
  induction l generalizing b with
  | nil => exact ⟨rfl, rfl⟩
  | cons x l ih =>
    obtain ⟨hc, hy⟩ := b.write_ly echo x.2 (h x List.mem_cons_self)
    obtain ⟨ihc, ihy⟩ := ih (b.write echo x.1 x.2) fun y hm => h y (List.mem_cons_of_mem x hm)
    exact ⟨ihc.trans hc, ihy.trans hy⟩

/-- Stores at addresses of their own leave LY as it was, or the LCD off: the one store that can reach LCDC clears LY
only where it switches the LCD off. -/
theorem Bus.writeAll_ly_of_on (echo : Bool) {l : List (Word × Byte)} (b : Bus) (hl : StoresApart l)
    (hon : bitOf (b.writeAll echo l).lcdc 7 = true) : (b.writeAll echo l).ly = b.ly := by
  induction l generalizing b with
  | nil => rfl
  | cons x l ih =>
    obtain ⟨hx, hl⟩ := List.pairwise_cons.mp hl
    rw [Bus.writeAll_cons] at hon ⊢
    by_cases ha : x.1 = 0xFF40
    · obtain ⟨hc, hy⟩ := Bus.writeAll_ly echo l (b.write echo x.1 x.2) fun y hm e => hx y hm (ha.trans e.symm)
      rw [hc] at hon
      rw [hy]
      rw [ha, Bus.write_lcdc, Bus.namedStore] at hon ⊢
      split at hon
      next hv => rw [if_pos hv]
      next hv => exact absurd hon hv
    · rw [ih _ hl hon]
      exact (b.write_ly echo x.2 ha).2

/-! ### The phase and the scanline -/

@[simp] theorem State.statRequest_ly (s : State) (i : Nat) : (s.statRequest i).bus.ly = s.bus.ly := by
  unfold State.statRequest
  split <;> rfl

@[simp] theorem State.compareLY_ly (s : State) : s.compareLY.bus.ly = s.bus.ly := by
  simp only [State.compareLY]
  split
  · exact State.statRequest_ly _ _
  · rfl

@[simp] theorem State.enterOAM_ly (s : State) : s.enterOAM.bus.ly = s.bus.ly := State.statRequest_ly _ _

@[simp] theorem State.enterHBlank_ly (s : State) : s.enterHBlank.bus.ly = s.bus.ly := by
  simp only [State.enterHBlank]
  split <;> exact State.statRequest_ly _ _

@[simp] theorem State.enterHBlank_mode (s : State) : s.enterHBlank.ppu.mode = .hblank := by
  simp only [State.enterHBlank]
  split <;> simp

@[simp] theorem State.enterVBlank_ly (s : State) : s.enterVBlank.bus.ly = s.bus.ly := by
  simp only [State.enterVBlank, State.statRequest_ly]
  split <;> rfl

@[simp] theorem State.enterVBlank_mode (s : State) : s.enterVBlank.ppu.mode = .vblank := by
  simp only [State.enterVBlank, State.statRequest_ppu]
  split <;> rfl

@[simp] theorem State.enterVBlank_ppu_frame (s : State) : s.enterVBlank.ppu.frame = s.ppu.frame := by
  simp only [State.enterVBlank, State.statRequest_ppu]
  split <;> rfl

theorem State.endHBlank_fitsLine (s : State) (h : s.bus.ly.toNat ≤ 143) :
    s.endHBlank.ppu.mode.fitsLine s.endHBlank.bus.ly.toNat := by
  have hy : (s.bus.ly + 1).toNat = s.bus.ly.toNat + 1 := by bv_omega
  simp only [State.endHBlank, State.compareLY_ly, State.setLy_bus]
  split
  next he =>
    simp only [State.enterVBlank_mode, State.enterVBlank_ly, State.compareLY_ly, State.setLy_bus, he]
    exact ⟨by decide, by decide⟩
  next hne =>
    have : (s.bus.ly + 1).toNat ≠ 144 := fun e => hne (BitVec.eq_of_toNat_eq e)
    simp only [State.enterOAM_ppu, State.enterOAM_ly, State.compareLY_ly, State.setLy_bus]
    show (s.bus.ly + 1).toNat ≤ 143
    omega

theorem State.endVBlankLine_fitsLine (s : State) (hm : s.ppu.mode = .vblank)
    (h : 144 ≤ s.bus.ly.toNat ∧ s.bus.ly.toNat ≤ 153) :
    s.endVBlankLine.ppu.mode.fitsLine s.endVBlankLine.bus.ly.toNat := by
  have hy : (s.bus.ly + 1).toNat = s.bus.ly.toNat + 1 := by bv_omega
  simp only [State.endVBlankLine]
  split
  next =>
    simp only [State.enterOAM_ppu, State.enterOAM_ly, State.compareLY_ly, State.setLy_bus]
    exact Nat.zero_le 143
  next hle =>
    simp only [State.compareLY_ppu, State.setLy_ppu, State.compareLY_ly, State.setLy_bus, hm]
    exact ⟨by omega, by omega⟩

/-- The end of a phase leads to a phase that fits the scanline, from one that does. -/
theorem State.endPhase_fitsLine (s : State) (h : s.ppu.mode.fitsLine s.bus.ly.toNat) :
    s.endPhase.ppu.mode.fitsLine s.endPhase.bus.ly.toNat := by
  unfold State.endPhase
  split
  next hm => rw [hm] at h; exact h
  next hm => rw [hm] at h; simpa [Mode.fitsLine] using h
  next hm => rw [hm] at h; exact s.endHBlank_fitsLine h
  next hm => rw [hm] at h; exact s.endVBlankLine_fitsLine hm h

theorem Bus.renderRow_length (b : Bus) (ly : Nat) (w : Byte) : (b.renderRow ly w).length = 160 := by
  simp [Bus.renderRow]

theorem FrameShape.set {f : List (List Shade)} (h : FrameShape f) (n : Nat) {row : List Shade} (hr : row.length = 160) :
    FrameShape (f.set n row) := by
  refine ⟨by rw [List.length_set]; exact h.1, fun r hm => ?_⟩
  rcases List.mem_or_eq_of_mem_set hm with hm | rfl
  · exact h.2 r hm
  · exact hr

theorem State.endPhase_frameShape (s : State) (h : FrameShape s.ppu.frame) : FrameShape s.endPhase.ppu.frame := by
  unfold State.endPhase
  split
  · exact h
  · simp only [State.enterHBlank]
    split
    · simpa using h.set _ (Bus.renderRow_length _ _ _)
    · simpa using h
  · simp only [State.endHBlank]
    split <;> simpa using h
  · simp only [State.endVBlankLine]
    split <;> simpa using h

theorem State.ppuLoop_fits (fuel : Nat) (s : State) (hl : s.ppu.mode.fitsLine s.bus.ly.toNat)
    (hf : FrameShape s.ppu.frame) :
    (State.ppuLoop fuel s).ppu.mode.fitsLine (State.ppuLoop fuel s).bus.ly.toNat ∧
    FrameShape (State.ppuLoop fuel s).ppu.frame :=
  State.ppuLoop_of_endPhase (P := fun s => s.ppu.mode.fitsLine s.bus.ly.toNat ∧ FrameShape s.ppu.frame)
    (fun _ _ h => ⟨State.endPhase_fitsLine _ h.1, State.endPhase_frameShape _ h.2⟩) fuel s ⟨hl, hf⟩

/-- A PPU step leaves the accumulator below the phase's length, the scanline fitting the phase and the frame's shape, if
LY fits the phase while the LCD is on and is 0 while it is off. -/
theorem State.ppuStep_fits (s : State) (c : Nat) (hf : FrameShape s.ppu.frame)
    (hon : bitOf s.bus.lcdc 7 = true → s.ppu.mode.fitsLine s.bus.ly.toNat)
    (hoff : bitOf s.bus.lcdc 7 = false → s.bus.ly = 0) :
    (s.ppuStep c).ppu.dots < (s.ppuStep c).ppu.mode.length ∧
    (s.ppuStep c).ppu.mode.fitsLine (s.ppuStep c).bus.ly.toNat ∧ FrameShape (s.ppuStep c).ppu.frame ∧
    (bitOf (s.ppuStep c).bus.lcdc 7 = false → (s.ppuStep c).bus.ly = 0) := by
  rw [(s.ppuStep_frame c).lcdc]
  unfold State.ppuStep
  split
  next h =>
    obtain ⟨hline, hframe⟩ := State.ppuLoop_fits ((s.ppu.dots + c) / 80 + 1)
      { s with ppu := { s.ppu with dots := s.ppu.dots + c } } (hon h) hf
    exact ⟨State.ppuLoop_dots _ _ (State.ppuStep_fuel _), hline, hframe, fun e => absurd (e.symm.trans h) (by decide)⟩
  next h =>
    have hy : s.bus.ly = 0 := hoff (by simpa using h)
    refine ⟨Nat.zero_lt_succ _, ?_, hf, fun _ => hy⟩
    show s.bus.ly.toNat ≤ 143
    rw [hy]
    decide

/-! ### The invariant -/

/-- The bus after a CPU step: while the LCD is on LY is as before the step, and while it is off LY is 0. -/
theorem CpuStepped.ly {s t : State} (h : CpuStepped s t) (hoff : bitOf s.bus.lcdc 7 = false → s.bus.ly = 0) :
    (bitOf t.bus.lcdc 7 = true → t.bus.ly = s.bus.ly) ∧ (bitOf t.bus.lcdc 7 = false → t.bus.ly = 0) := by
  obtain ⟨f, l, hb, hl⟩ := h.bus
  rw [hb]
  exact ⟨Bus.writeAll_ly_of_on _ _ hl,
    Bus.writeAll_of_write (P := fun b => bitOf b.lcdc 7 = false → b.ly = 0) _ (fun b a v => b.write_lcdOff _ a v) l _
      hoff⟩

theorem State.Inv.openFrame {s : State} (h : s.Inv) : s.openFrame.Inv := by
  unfold State.openFrame
  split
  · exact ⟨h.memory, h.banks, h.dots, h.line, h.lcdOff, h.divider, h.frame, Nat.zero_lt_succ _⟩
  · exact h

/-- A fatal CPU step keeps the invariant: it changes the CPU core only. -/
theorem State.Inv.ofFatal {s t : State} (hs : s.Inv) (h : CpuStepped s t) (hb : t.bus = s.bus) : t.Inv where
  memory := hb ▸ hs.memory
  banks := hb ▸ hs.banks
  dots := h.ppu ▸ hs.dots
  line := by rw [h.ppu, hb]; exact hs.line
  lcdOff := hb ▸ hs.lcdOff
  divider := h.divAcc ▸ hs.divider
  frame := h.ppu ▸ hs.frame
  count := h.frameCycles ▸ hs.count

/-- A CPU step and the tick of the devices keep the invariant, from a count that is within the frame's budget. -/
theorem State.Inv.tick {s t : State} (hs : s.Inv) (h : CpuStepped s t) (hc : t.cpu.cost ≤ 24)
    (hbudget : s.frameCycles < frameBudget) : (t.tick t.cpu.cost).Inv := by
  obtain ⟨f, l, hb, -⟩ := h.bus
  obtain ⟨-, -, -, hm, hk, hn⟩ := t.tick_frame t.cpu.cost
  obtain ⟨hon, hoff⟩ := h.ly hs.lcdOff
  obtain ⟨hdots, hline, hframe, hlcd⟩ := t.ppuStep_fits t.cpu.cost (by rw [h.ppu]; exact hs.frame)
    (fun e => by rw [h.ppu, hon e]; exact hs.line) hoff
  refine ⟨?memory, ?banks, hdots, hline, hlcd, State.timerStep_divAcc_lt _ _, hframe, ?count⟩
  case memory =>
    rw [hm, hb]
    exact Bus.writeAll_of_write (P := fun b => b.mem.wf) _ (fun b a v => b.write_wf _ a v) l _ hs.memory
  case banks =>
    rw [hk, hb]
    exact Bus.writeAll_of_write (P := fun b => b.cart.Legal) _ (fun b a v => b.write_legal _ a v) l _ hs.banks
  case count =>
    rw [hn, h.frameCycles]
    omega

/-- Settles O33: the invariant evaluated at the reset state. -/
theorem resetMeetsInvariant : Obligations.ResetMeetsInvariant := by
  unfold Obligations.ResetMeetsInvariant
  exact {
    memory := Memory.wf_nil
    banks := ⟨⟨0, rfl⟩, ⟨0, rfl⟩, rfl, rfl, rfl⟩
    dots := by decide
    line := Nat.zero_le 143
    lcdOff := fun _ => rfl
    divider := by decide
    frame := ⟨List.length_replicate, fun _ h => (List.eq_of_mem_replicate h) ▸ List.length_replicate⟩
    count := by decide }

/-- Settles O34: the start-of-frame work, a fatal CPU step and a CPU step with its tick each keep the invariant. -/
theorem stepKeepsInvariant : Obligations.StepKeepsInvariant := by
  unfold Obligations.StepKeepsInvariant
  intro s t hs h
  obtain ⟨u, hu, ht⟩ := step_cases h
  obtain ⟨-, -, -, -, hbudget⟩ := s.openFrame_frame
  rcases ht with ⟨hf, rfl⟩ | ⟨hf, rfl⟩
  · exact hs.openFrame.ofFatal hu (hu.bus_of_fatal hf)
  · exact hs.openFrame.tick hu (hu.cost_le hf) hbudget

/-! ### The parts no step changes -/

/-- Storage `m` and controller `c` have the ROM image, the boot ROM and the header fields of the bus `b`, and `c` is
legal. -/
structure SameImages (b : Bus) (m : Memory) (c : Cart) : Prop where
  legal : c.Legal
  rom : ∀ off, m.read (romKey off) = b.mem.read (romKey off)
  boot : ∀ i, i < 256 → m.read (bootKey i) = b.mem.read (bootKey i)
  header : c.family = b.cart.family ∧ c.battery = b.cart.battery ∧ c.romSize = b.cart.romSize ∧
    c.romBanks = b.cart.romBanks ∧ c.ramSize = b.cart.ramSize ∧ c.ramBanks = b.cart.ramBanks

namespace SameImages

variable {b : Bus} {m : Memory} {c : Cart}

theorem control (h : SameImages b m c) (n : Nat) (v : Byte) : SameImages b m (c.control n v) := by
  refine ⟨Cart.control_legal h.legal n v, h.rom, h.boot, ?_⟩
  obtain ⟨hf, hb, hs, hr, hm, hn⟩ := c.control_static n v
  rw [hf, hb, hs, hr, hm, hn]
  exact h.header

theorem writeMem (h : SameImages b m c) {k : Nat} (v : Byte) (hr : ∀ off, romKey off ≠ k)
    (hb : ∀ i, i < 256 → bootKey i ≠ k) : SameImages b (m.write k v) c where
  legal := h.legal
  rom off := (m.read_write_of_ne v (hr off)).trans (h.rom off)
  boot i hi := (m.read_write_of_ne v (hb i hi)).trans (h.boot i hi)
  header := h.header

/-- The bus's own arrays lie below the images. -/
theorem writePlain (h : SameImages b m c) {k : Nat} (v : Byte) (hk : k < 0x10000) : SameImages b (m.write k v) c :=
  h.writeMem v (fun off => by unfold romKey; omega) (fun i _ => by unfold bootKey; omega)

/-- The cartridge RAM lies between the boot ROM and the ROM image: a legal controller has 128 KiB of it at most. -/
theorem writeRam (h : SameImages b m c) {off : Nat} (v : Byte) (ho : off < c.ramSize) :
    SameImages b (m.write (ramKey off) v) c :=
  h.writeMem v (fun _ => (keys_apart h.legal ho (i := 0) (k := 0) (by decide) (by decide)).1.symm)
    (fun _ hi => (keys_apart h.legal ho (r := 0) (k := 0) hi (by decide)).2.1.symm)

theorem store {d : Bus} (h : SameImages b d.mem d.cart) (echo : Bool) (a : Word) (v : Byte) :
    SameImages b (d.store echo a v).mem (d.store echo a v).cart := by
  apply Bus.store_cases (P := fun d => SameImages b d.mem d.cart)
  case same => exact h
  case ctrl => exact fun n => h.control n v
  case ram => exact fun n off ho => h.writeRam v (Cart.ramOffset_lt ho)
  case plain => exact fun k hk => h.writePlain v hk
  case named =>
    intro r
    cases r with
    | boot => exact SameImages.writePlain (k := 0xFF50) h v (by decide)
    | lcdc => simp only [Bus.namedStore]; split <;> exact h
    | _ => exact h

end SameImages

/-- Settles O36: every store keeps the images and the header fields, since the keys of what it can write lie apart from
theirs. -/
theorem immutableParts : Obligations.ImmutableParts := by
  unfold Obligations.ImmutableParts
  intro s t hs h
  obtain ⟨-, hrom, hboot, hheader⟩ :=
    step_bus_of_write (P := fun d => SameImages s.bus d.mem d.cart) h (fun _ _ _ _ _ _ hb => hb)
      (fun b a v => Bus.write_of_store (P := fun d => SameImages s.bus d.mem d.cart) _ (fun _ a v hd => hd.store _ a v)
        b a v)
      ⟨hs, fun _ => rfl, fun _ _ => rfl, rfl, rfl, rfl, rfl, rfl, rfl⟩
  exact ⟨step_config h, hrom, hboot, hheader⟩

/-! ### Registers, pairs and flags -/

theorem hi_eq_ofNat (w : Word) : BitVec.ofNat 8 (w.toNat / 256) = hi w := by
  apply BitVec.eq_of_toNat_eq
  rw [BitVec.toNat_ofNat, hi_toNat]
  omega

theorem lo_eq_ofNat (w : Word) : BitVec.ofNat 8 (w.toNat % 256) = lo w := by
  apply BitVec.eq_of_toNat_eq
  rw [BitVec.toNat_ofNat, lo_toNat]
  omega

theorem Cpu.reg_setReg (c : Cpu) (r q : R8) (v : Byte) : (c.setReg r v).reg q = if q = r then v else c.reg q := by
  split
  next h => rw [h, Cpu.reg_setReg_self]
  next h => exact Cpu.reg_setReg_of_ne c v h

theorem Flags.pack_toNat (f : Flags) :
    f.pack.toNat = 128 * f.z.toNat + 64 * f.n.toNat + 32 * f.h.toNat + 16 * f.c.toNat := by
  rcases f with ⟨z, n, h, c⟩
  cases z <;> cases n <;> cases h <;> cases c <;> rfl

/-- The packed flags bit by bit, from bit 0 up. -/
theorem Flags.bitOf_pack (f : Flags) (i : Nat) (hi : i < 8) :
    bitOf f.pack i = [false, false, false, false, f.c, f.h, f.n, f.z].getD i false := by
  rcases f with ⟨z, n, h, c⟩
  revert i z n h c
  decide

theorem Flags.pack_unpack (v : Byte) : (Flags.unpack v).pack = v &&& 0xF0 := by
  apply BitVec.eq_of_getLsbD_eq
  intro i hi
  rw [← bitOf, Flags.bitOf_pack _ i hi]
  match i, hi with
  | 0, _ | 1, _ | 2, _ | 3, _ | 4, _ | 5, _ | 6, _ | 7, _ => simp [Flags.unpack, bitOf]

/-- Settles O6: each clause is a law of `Cpu.setReg`, of `w16`, `hi` and `lo`, or of the packed flags. -/
theorem registersPairsAndFlags : Obligations.RegistersPairsAndFlags := by
  unfold Obligations.RegistersPairsAndFlags
  refine ⟨Cpu.reg_setReg, ?frame, ?views, ?pairs, Flags.pack_toNat, fun v => ⟨rfl, Flags.pack_unpack v⟩, by decide,
    by decide⟩
  case frame => intro c r v; cases r <;> rfl
  case views => exact fun c => ⟨w16_toNat _ _, w16_toNat _ _, w16_toNat _ _, w16_toNat _ _⟩
  case pairs =>
    intro c w
    dsimp only
    rw [hi_eq_ofNat, lo_eq_ofNat]
    refine ⟨rfl, rfl, rfl, rfl, rfl, fun p hp => ?_⟩
    simp only [List.mem_cons, List.not_mem_nil, or_false] at hp
    rcases hp with rfl | rfl | rfl <;> exact ⟨rfl, rfl⟩

/-! ### The boot latch -/

theorem BootRom.bytes_eq_none_iff : ∀ r : BootRom, r.bytes = none ↔ r = .absent
  | .absent => ⟨fun _ => rfl, fun _ => rfl⟩
  | .missingFile => ⟨nofun, nofun⟩
  | .image _ => ⟨nofun, nofun⟩

/-- Power-on answers the boot-ROM reset where a boot ROM is supplied, and the post-boot reset otherwise. -/
theorem powerOn_bootLatch {h : Supply} {s : State} (hp : powerOn h = .ok s) :
    s.bus.bootLatch = true ↔ h.bootRom ≠ .absent := by
  unfold powerOn at hp
  dsimp only at hp
  rw [ne_eq, ← BootRom.bytes_eq_none_iff]
  split at hp
  · exact nomatch hp
  split at hp
  next hb =>
    obtain rfl := Except.ok.inj hp
    simp [hb, Bus.postBoot]
  next boot hb =>
    obtain rfl := Except.ok.inj hp
    simp [hb, Bus.bootRom]

theorem Bus.read_overlay (echo : Bool) (b : Bus) (a : Word) (hb : b.bootLatch = true) (ha : a.toNat < 0x100) :
    b.read echo a = b.mem.read (bootKey a.toNat) := if_pos ⟨hb, ha⟩

theorem Bus.read_above_overlay (echo : Bool) (b : Bus) (a : Word) (ha : 0x100 ≤ a.toNat) :
    b.read echo a = Bus.read echo { b with bootLatch := false } a := by
  have h (d : Bus) : ¬(d.bootLatch = true ∧ a.toNat < 0x100) := fun h => absurd h.2 (Nat.not_lt.mpr ha)
  unfold Bus.read
  rw [if_neg (h b), if_neg (h _)]
  rfl

theorem Bus.write_control (echo : Bool) (b : Bus) (a : Word) (v : Byte) (ha : a.toNat < 0x8000) :
    b.write echo a v = { b with cart := b.cart.control a.toNat v } := by
  have hd : a ≠ 0xFF46 := by bv_omega
  have hr : isBankRange a.toNat = true := by simp [isBankRange, ha]
  simp only [Bus.write, Bus.store, Bus.mbcWrite, hd, hr, ha, if_true, if_false]

theorem Bus.write_boot (echo : Bool) (b : Bus) (v : Byte) :
    b.write echo 0xFF50 v = { b with bootLatch := false, mem := b.mem.write 0xFF50 v } := rfl

theorem Bus.read_boot (echo : Bool) (b : Bus) : b.read echo 0xFF50 = b.mem.read 0xFF50 :=
  (b.read_above_overlay echo 0xFF50 (by decide)).trans rfl

/-- Settles O37: the latch at power-on, the reads and writes around the overlay, and a step, none of whose writes sets
the latch. -/
theorem bootLatchAndOverlay : Obligations.BootLatchAndOverlay := by
  unfold Obligations.BootLatchAndOverlay
  refine ⟨fun _ _ => powerOn_bootLatch, Bus.read_overlay, Bus.read_above_overlay, Bus.write_control, ?boot, ?step⟩
  case boot =>
    intro echo b v
    refine ⟨Bus.write_boot echo b v, ?_⟩
    rw [Bus.read_boot, Bus.write_boot, Memory.read_write_self]
  case step =>
    intro s t h
    exact step_bus_of_write (P := fun b => b.bootLatch = true → s.bus.bootLatch = true) h (fun _ _ _ _ _ _ hb => hb)
      (fun b a v hb ht => hb ((b.write_joy_latch _ a v).2 ht)) id

/-! ### What an instruction leaves alone -/

/-- No store changes the joypad byte. -/
theorem Bus.writeAll_joy (echo : Bool) (l : List (Word × Byte)) (b : Bus) : (b.writeAll echo l).joy = b.joy :=
  Bus.writeAll_of_write (P := fun d => d.joy = b.joy) echo (fun d a v h => (d.write_joy_latch echo a v).1.trans h) l b
    rfl

/-- Settles O38: the frame is that of `exec_effect`, IME and `halted` those of `exec_ends`. -/
theorem instructionFrame : Obligations.InstructionFrame := by
  unfold Obligations.InstructionFrame
  intro i s t h
  obtain ⟨u, hu, he⟩ := exec_ends i s
  obtain ⟨c, hc⟩ := exec_effect i s
  obtain rfl : u = t := Host.Outcome.next.inj (hu.symm.trans h)
  obtain rfl : u = _ := Host.Outcome.next.inj (hu.symm.trans hc)
  exact ⟨rfl, rfl, rfl, rfl, rfl, Bus.writeAll_joy _ _ _, he.ime, he.halted⟩

end Sys2Proof.Machine

namespace Sys2Proof.Machine

/-! ### The address decoder, case by case

What a read and a write do at each kind of address: a bank-controlled one, a named register, a byte of a plain region,
and an unmapped one (spec/20_memory.md R80, R81). -/

/-- The bus address of a named register (spec/10_state.md R33). -/
def NamedReg.addr : NamedReg → Nat
  | .p1 => 0xFF00
  | .div => 0xFF04
  | .ifr => 0xFF0F
  | .lcdc => 0xFF40
  | .stat => 0xFF41
  | .scy => 0xFF42
  | .scx => 0xFF43
  | .ly => 0xFF44
  | .lyc => 0xFF45
  | .dma => 0xFF46
  | .bgp => 0xFF47
  | .obp0 => 0xFF48
  | .obp1 => 0xFF49
  | .wy => 0xFF4A
  | .wx => 0xFF4B
  | .boot => 0xFF50
  | .ie => 0xFFFF

theorem NamedReg.addr_ge (r : NamedReg) : 0xFF00 ≤ r.addr := by
  cases r <;> decide

theorem eq_addr_of_namedRegAt {n : Nat} {r : NamedReg} (h : namedRegAt n = some r) : n = r.addr := by
  unfold namedRegAt at h
  split at h
  · exact nomatch h
  split at h
  case h_18 => exact nomatch h
  all_goals
    obtain rfl := Option.some.inj h
    simp only [NamedReg.addr]
    omega

theorem namedRegAt_addr (r : NamedReg) : namedRegAt r.addr = some r := by
  cases r <;> rfl

theorem namedRegAt_eq_some {n : Nat} {r : NamedReg} : namedRegAt n = some r ↔ n = r.addr :=
  ⟨eq_addr_of_namedRegAt, fun h => h ▸ namedRegAt_addr r⟩

theorem namedRegAt_eq_none {n : Nat} : namedRegAt n = none ↔ ∀ r : NamedReg, n ≠ r.addr := by
  simp [Option.eq_none_iff_forall_ne_some, namedRegAt_eq_some]

theorem namedRegAt_of_lt {n : Nat} (h : n < 0xFF00) : namedRegAt n = none := if_pos h

theorem isBankRange_iff {n : Nat} : isBankRange n = true ↔ n < 0x8000 ∨ (0xA000 ≤ n ∧ n < 0xC000) := by
  simp [isBankRange]

theorem isBankRange_of_ge {n : Nat} (h : 0xC000 ≤ n) : isBankRange n = false := by
  rw [Bool.eq_false_iff, ne_eq, isBankRange_iff]
  omega

theorem isBankRange_of_regionKey {echo : Bool} {n k : Nat} (h : regionKey echo n = some k) : isBankRange n = false := by
  rw [Bool.eq_false_iff, ne_eq, isBankRange_iff]
  intro hb
  revert h
  unfold regionKey
  rw [if_neg (by omega), if_neg (by omega), if_neg (by omega), if_neg (by omega), if_neg (by omega)]
  exact nofun

theorem Bus.read_bank (echo : Bool) (b : Bus) (a : Word) (ho : ¬(b.bootLatch = true ∧ a.toNat < 0x100))
    (h : isBankRange a.toNat = true) : b.read echo a = b.mbcRead a.toNat := by
  rw [Bus.read, if_neg ho, if_pos h]

theorem Bus.read_named (echo : Bool) (b : Bus) (a : Word) {r : NamedReg} (h : a.toNat = r.addr) :
    b.read echo a = b.namedRead r := by
  have hr := r.addr_ge
  have ho : ¬(b.bootLatch = true ∧ a.toNat < 0x100) := by omega
  simp only [Bus.read, if_neg ho, isBankRange_of_ge (show 0xC000 ≤ a.toNat by omega), namedRegAt_eq_some.mpr h,
    Bool.false_eq_true, if_false]

/-- Above the bank-controlled ranges and apart from the named registers, the region tables decide. -/
theorem Bus.read_region (echo : Bool) (b : Bus) (a : Word) (hb : isBankRange a.toNat = false)
    (hn : namedRegAt a.toNat = none) :
    b.read echo a = (regionKey echo a.toNat).elim 0xFF b.mem.read := by
  have ho : ¬(b.bootLatch = true ∧ a.toNat < 0x100) := by
    rw [Bool.eq_false_iff, ne_eq, isBankRange_iff] at hb
    omega
  simp only [Bus.read, if_neg ho, hb, hn, Bool.false_eq_true, if_false]
  cases regionKey echo a.toNat <;> rfl

theorem Bus.write_of_ne_dma (echo : Bool) (b : Bus) {a : Word} (v : Byte) (h : a ≠ 0xFF46) :
    b.write echo a v = b.store echo a v := if_neg h

theorem Bus.store_named (echo : Bool) (b : Bus) (a : Word) (v : Byte) {r : NamedReg} (h : a.toNat = r.addr) :
    b.store echo a v = b.namedStore r v := by
  have hr := r.addr_ge
  simp only [Bus.store, isBankRange_of_ge (show 0xC000 ≤ a.toNat by omega), namedRegAt_eq_some.mpr h,
    Bool.false_eq_true, if_false]

theorem Bus.write_named (echo : Bool) (b : Bus) (a : Word) (v : Byte) {r : NamedReg} (h : a.toNat = r.addr)
    (hd : a ≠ 0xFF46) : b.write echo a v = b.namedStore r v :=
  (b.write_of_ne_dma echo v hd).trans (b.store_named echo a v h)

theorem Bus.write_bank (echo : Bool) (b : Bus) (a : Word) (v : Byte) (h : isBankRange a.toNat = true) :
    b.write echo a v = b.mbcWrite a.toNat v := by
  have hd : a ≠ 0xFF46 := by rintro rfl; exact absurd h (by decide)
  rw [b.write_of_ne_dma echo v hd, Bus.store, if_pos h]

theorem ne_dma_of_namedRegAt {a : Word} (h : namedRegAt a.toNat = none) : a ≠ 0xFF46 := by
  rintro rfl
  exact nomatch h

theorem Bus.write_region (echo : Bool) (b : Bus) (a : Word) (v : Byte) (hb : isBankRange a.toNat = false)
    (hn : namedRegAt a.toNat = none) :
    b.write echo a v = (regionKey echo a.toNat).elim b fun k => { b with mem := b.mem.write k v } := by
  rw [b.write_of_ne_dma echo v (ne_dma_of_namedRegAt hn)]
  simp only [Bus.store, hb, hn, Bool.false_eq_true, if_false]
  cases regionKey echo a.toNat <;> rfl

/-! ### The plain regions -/

/-- Where a region keeps the byte of an address under the address itself. -/
theorem regionKey_self (echo : Bool) {n : Nat}
    (h : (0x8000 ≤ n ∧ n < 0xA000) ∨ (0xC000 ≤ n ∧ n < 0xE000) ∨ (0xFE00 ≤ n ∧ n < 0xFEA0) ∨ (0xFF00 ≤ n ∧ n < 0x10000)) :
    regionKey echo n = some n := by
  unfold regionKey
  rcases h with h | h | h | h
  · rw [if_pos h]
  · rw [if_neg (by omega), if_pos h]
  · rw [if_neg (by omega), if_neg (by omega), if_neg (by omega), if_pos h]
  · rw [if_neg (by omega), if_neg (by omega), if_neg (by omega), if_neg (by omega), if_pos h]

theorem regionKey_echo (echo : Bool) {n : Nat} (h : 0xE000 ≤ n ∧ n < 0xFE00) :
    regionKey echo n = if echo then some (n - 0x2000) else none := by
  unfold regionKey
  rw [if_neg (by omega), if_neg (by omega), if_pos h]

theorem regionKey_gap (echo : Bool) {n : Nat} (h : 0xFEA0 ≤ n ∧ n < 0xFF00) : regionKey echo n = none := by
  unfold regionKey
  rw [if_neg (by omega), if_neg (by omega), if_neg (by omega), if_neg (by omega), if_neg (by omega)]

/-- Settles O44: every such address is decoded by the region tables, which keep its byte under the address itself. -/
theorem plainStorage : Obligations.PlainStorage := by
  unfold Obligations.PlainStorage
  intro echo b a v ha
  have hk : regionKey echo a.toNat = some a.toNat := regionKey_self echo (by omega)
  have hb := isBankRange_of_regionKey hk
  have hn : namedRegAt a.toNat = none := by
    refine namedRegAt_eq_none.mpr fun r hr => ?_
    simp only [List.mem_cons, List.not_mem_nil, or_false, not_or] at ha
    cases r <;> simp only [NamedReg.addr] at hr <;> omega
  have hw : b.write echo a v = { b with mem := b.mem.write a.toNat v } := by
    rw [b.write_region echo a v hb hn, hk]
    rfl
  have hr (d : Bus) : d.read echo a = d.mem.read a.toNat := by
    rw [d.read_region echo a hb hn, hk]
    rfl
  refine ⟨hw, ?_, hr b, fun k hne => ?_⟩
  · rw [hr, hw, Memory.read_write_self]
  · rw [hw, Memory.read_write_of_ne _ v hne]

theorem Bus.read_unmapped (echo : Bool) (b : Bus) (a : Word) (hb : isBankRange a.toNat = false)
    (hn : namedRegAt a.toNat = none) (hk : regionKey echo a.toNat = none) : b.read echo a = 0xFF := by
  rw [b.read_region echo a hb hn, hk]
  rfl

theorem Bus.write_unmapped (echo : Bool) (b : Bus) (a : Word) (v : Byte) (hb : isBankRange a.toNat = false)
    (hn : namedRegAt a.toNat = none) (hk : regionKey echo a.toNat = none) : b.write echo a v = b := by
  rw [b.write_region echo a v hb hn, hk]
  rfl

theorem writeWarning_unmapped (echo : Bool) (a : Word) (hb : isBankRange a.toNat = false)
    (hn : namedRegAt a.toNat = none) (hk : regionKey echo a.toNat = none) :
    writeWarning echo a = some (.outOfRangeWrite a) := by
  simp [writeWarning, hb, hn, hk]

/-- Settles O46: no region claims an unmapped address, and an echo address has the key of the one 0x2000 below it. -/
theorem unmappedAddressesAndEcho : Obligations.UnmappedAddressesAndEcho := by
  unfold Obligations.UnmappedAddressesAndEcho
  intro echo b a v
  constructor
  · intro ha
    have hb : isBankRange a.toNat = false := isBankRange_of_ge (by omega)
    have hn : namedRegAt a.toNat = none := namedRegAt_of_lt (by omega)
    have hk : regionKey echo a.toNat = none := by
      rcases ha with ha | ⟨rfl, ha⟩
      · exact regionKey_gap echo ha
      · exact regionKey_echo false ha
    exact ⟨b.read_unmapped echo a hb hn hk, b.write_unmapped echo a v hb hn hk, writeWarning_unmapped echo a hb hn hk⟩
  · rintro rfl hlo hhi
    have ha : (a - 0x2000).toNat = a.toNat - 0x2000 := by bv_omega
    have hk : regionKey true (a - 0x2000).toNat = regionKey true a.toNat := by
      rw [regionKey_echo true ⟨hlo, hhi⟩, ha, regionKey_self true (by omega), if_pos rfl]
    have hb : isBankRange a.toNat = false := isBankRange_of_ge (by omega)
    have hb' : isBankRange (a - 0x2000).toNat = false := isBankRange_of_ge (by omega)
    have hn : namedRegAt a.toNat = none := namedRegAt_of_lt (by omega)
    have hn' : namedRegAt (a - 0x2000).toNat = none := namedRegAt_of_lt (by omega)
    rw [b.read_region true a hb hn, b.read_region true _ hb' hn', b.write_region true a v hb hn,
      b.write_region true _ v hb' hn', hk]
    exact ⟨rfl, rfl⟩

/-! ### The named registers -/

theorem Bus.namedStore_lcdc (b : Bus) (v : Byte) :
    b.namedStore .lcdc v = { b with lcdc := v, ly := if bitOf v 7 then b.ly else 0 } := by
  simp only [Bus.namedStore]
  split <;> rfl

theorem State.read_named (s : State) (r : NamedReg) {a : Word} (h : a.toNat = r.addr) :
    s.read a = s.bus.namedRead r := Bus.read_named _ _ a h

theorem State.write_named (s : State) (r : NamedReg) {a : Word} (v : Byte) (h : a.toNat = r.addr) (hd : a ≠ 0xFF46) :
    s.write a v = s.setBus (s.bus.namedStore r v) := congrArg s.setBus (Bus.write_named _ _ a v h hd)

theorem bitOf_seven (v : Byte) : bitOf v 7 = decide (128 ≤ v.toNat) :=
  (BitVec.msb_eq_getLsbD_last v).symm.trans (BitVec.msb_eq_decide v)

/-- Settles O45: one clause for each register, its read `namedRead` and its write `namedStore`. -/
theorem namedRegisterAccess : Obligations.NamedRegisterAccess := by
  unfold Obligations.NamedRegisterAccess
  intro s v b
  have rd (r : NamedReg) {a : Word} (h : a.toNat = r.addr) : s.read a = b.namedRead r := s.read_named r h
  have wr (r : NamedReg) {a : Word} (h : a.toNat = r.addr) (hd : a ≠ 0xFF46) :
      s.write a v = s.setBus (b.namedStore r v) := s.write_named r v h hd
  refine ⟨rd .div rfl, wr .div rfl (by decide), rd .ifr rfl, wr .ifr rfl (by decide), rd .ie rfl, wr .ie rfl (by decide),
    rd .lcdc rfl, ?lcdc, ?statRead, ?statWrite, rd .ly rfl, wr .ly rfl (by decide),
    rd .lyc rfl, wr .lyc rfl (by decide), rd .scy rfl, wr .scy rfl (by decide), rd .scx rfl, wr .scx rfl (by decide),
    rd .bgp rfl, wr .bgp rfl (by decide), rd .obp0 rfl, wr .obp0 rfl (by decide), rd .obp1 rfl, wr .obp1 rfl (by decide),
    rd .wy rfl, wr .wy rfl (by decide), rd .wx rfl, wr .wx rfl (by decide)⟩
  case lcdc =>
    rw [wr .lcdc rfl (by decide), Bus.namedStore_lcdc]
    by_cases hv : v.toNat < 128
    · simp [bitOf_seven, hv, State.setBus, Nat.not_le.mpr hv, b]
    · simp [bitOf_seven, hv, State.setBus, Nat.not_lt.mp hv, b]
  case statRead =>
    intro i
    rw [rd .stat rfl, bitOf, Bus.namedRead, BitVec.getLsbD_append]
    split
    next hi => simp [show i ≠ 7 by omega]
    next hi => simp [BitVec.getLsbD_of_ge b.stat i (by omega), show i - 7 = 0 ↔ i = 7 by omega]
  case statWrite =>
    rw [wr .stat rfl (by decide)]
    refine ⟨rfl, fun i => ?_⟩
    simp only [State.setBus_bus, Bus.namedStore, BitVec.getLsbD_append, BitVec.getLsbD_extractLsb', bitOf]
    by_cases hlo : i < 3
    · simp [hlo, show ¬(3 ≤ i ∧ i ≤ 6) by omega, b]
    by_cases hhi : i ≤ 6
    · simp [hlo, show i - 3 < 4 by omega, show 3 + (i - 3) = i by omega, show 3 ≤ i ∧ i ≤ 6 by omega]
    · simp [hlo, hhi, show ¬i - 3 < 4 by omega, BitVec.getLsbD_of_ge b.stat i (by omega)]

/-! ### The joypad -/

/-- Bit `i` of the joypad byte, from bit 0 up: 0 for a pressed button. -/
theorem Buttons.bitOf_lines (p : Buttons) (i : Nat) (hi : i < 8) :
    bitOf p.lines i = [!p.right, !p.left, !p.up, !p.down, !p.a, !p.b, !p.select, !p.start].getD i false := by
  simp only [bitOf, Buttons.lines, BitVec.getLsbD_append, BitVec.getLsbD_ofBool]
  match i, hi with
  | 0, _ | 1, _ | 2, _ | 3, _ | 4, _ | 5, _ | 6, _ | 7, _ => simp

/-- The P1 read bit by bit: bits 7 and 6 set, the selection, and the lines of the selected nibbles. -/
theorem Bus.bitOf_readP1 (b : Bus) (i : Nat) :
    bitOf b.readP1 i =
      if i < 4 then (b.sel.getLsbD 1 || bitOf b.joy (4 + i)) && (b.sel.getLsbD 0 || bitOf b.joy i)
      else if i < 6 then b.sel.getLsbD (i - 4) else decide (i < 8) := by
  have ones4 : ∀ j (hj : j < 4), (15#4)[j] = true := by decide
  have ones2 (j : Nat) : (3#2).getLsbD j = decide (j < 2) := BitVec.getLsbD_allOnes (v := 2)
  simp only [bitOf, Bus.readP1, BitVec.getLsbD_append]
  by_cases hi : i < 4
  · cases b.sel.getLsbD 1 <;> cases b.sel.getLsbD 0 <;> simp [hi, ones4]
  · simp [hi, ones2, show i - 4 < 2 ↔ i < 6 by omega, show i - 4 - 2 < 2 ↔ i < 8 by omega]

/-- Settles O55: the joypad byte by `Buttons.bitOf_lines`, P1 as a named register, its read by `Bus.bitOf_readP1`. -/
theorem joypadAndP1 : Obligations.JoypadAndP1 := by
  unfold Obligations.JoypadAndP1
  refine ⟨fun s p => ?sample, fun echo b v => ?write, fun echo b => ?read⟩
  case sample =>
    refine ⟨rfl, ?_, ?_, ?_, ?_, ?_, ?_, ?_, ?_⟩ <;> exact p.bitOf_lines _ (by decide)
  case write =>
    rw [Bus.write_named echo b 0xFF00 v (r := .p1) rfl (by decide), Bus.namedStore]
    congr 1
    apply BitVec.eq_of_toNat_eq
    simp [Nat.shiftRight_eq_div_pow]
  case read =>
    rw [Bus.read_named echo b 0xFF00 (r := .p1) rfl, Bus.namedRead]
    refine ⟨b.bitOf_readP1 7, b.bitOf_readP1 6, b.bitOf_readP1 5, b.bitOf_readP1 4, fun i hi => ?_⟩
    rw [b.bitOf_readP1, if_pos hi]

/-! ### Canonical storage -/

theorem Memory.read_of_not_listed {m : Memory} {k : Nat} (h : ∀ c ∈ m, c.1 ≠ k) : m.read k = Memory.unlisted k := by
  induction m with
  | nil => rfl
  | cons c m ih =>
    rw [Memory.read, if_neg (h c List.mem_cons_self)]
    exact ih fun d hd => h d (List.mem_cons_of_mem c hd)

/-- Where the keys rise strictly, a listed byte is the one its key reads. -/
theorem Memory.read_of_mem {m : Memory} {c : Host.Cell} (hm : m.Pairwise (fun c d => c.1 < d.1)) (h : c ∈ m) :
    m.read c.1 = c.2 := by
  induction m with
  | nil => exact nomatch h
  | cons d m ih =>
    obtain ⟨hd, hm⟩ := List.pairwise_cons.mp hm
    rcases List.mem_cons.mp h with rfl | h
    · exact if_pos rfl
    · rw [Memory.read, if_neg (Nat.ne_of_lt (hd c h)), ih hm h]

/-- Canonical storage lists exactly the bytes that differ from what an unlisted key reads as. -/
theorem Memory.wf.mem_iff {m : Memory} (h : m.wf) (c : Host.Cell) :
    c ∈ m ↔ m.read c.1 = c.2 ∧ c.2 ≠ Memory.unlisted c.1 := by
  obtain ⟨hp, hu⟩ := h
  refine ⟨fun hc => ⟨Memory.read_of_mem hp hc, hu c hc⟩, fun ⟨hr, hne⟩ => ?_⟩
  have hk : ∃ d, d ∈ m ∧ d.1 = c.1 := Classical.byContradiction fun hno =>
    hne (hr.symm.trans (Memory.read_of_not_listed fun d hd hdc => hno ⟨d, hd, hdc⟩))
  obtain ⟨d, hd, hdc⟩ := hk
  have : d = c := Prod.ext hdc (by rw [← hr, ← hdc, Memory.read_of_mem hp hd])
  exact this ▸ hd

/-- Canonical storage is determined by its reads: the same bytes are listed, in the order of their keys. -/
theorem Memory.wf.ext {m m' : Memory} (h : m.wf) (h' : m'.wf) (hr : ∀ k, m.read k = m'.read k) : m = m' := by
  have nodup {l : Memory} (hl : l.wf) : l.Nodup := hl.1.imp fun hlt he => by simp [he] at hlt
  have hperm : m.Perm m' :=
    (List.perm_ext_iff_of_nodup (nodup h) (nodup h')).mpr fun c => by rw [h.mem_iff, h'.mem_iff, hr]
  exact hperm.eq_of_pairwise (fun c d _ _ hcd hdc => absurd hcd (Nat.lt_asymm hdc)) h.1 h'.1

/-- Settles O42: extensionality of canonical storage, and the laws of a write. -/
theorem canonicalMemory : Obligations.CanonicalMemory := by
  unfold Obligations.CanonicalMemory
  exact ⟨fun _ _ h h' hr => h.ext h' hr, fun m k v h => ⟨Memory.wf_write h k v, fun k' => m.read_write k k' v⟩⟩

/-! ### The bank controller -/

theorem toNat_and_mask {w : Nat} (v m : BitVec w) (i : Nat) (hm : m.toNat = 2 ^ i - 1) :
    (v &&& m).toNat = v.toNat % 2 ^ i := by
  rw [BitVec.toNat_and, hm, Nat.and_two_pow_sub_one_eq_mod]

/-- The ROM bank that MBC1 and MBC3 take from the low bits of a byte: 0 becomes 1 (spec/20_memory.md R123, R124). -/
theorem coerced_bank (v m : Byte) (i : Nat) (hm : m.toNat = 2 ^ i - 1) :
    (if v &&& m = 0 then 1 else (v &&& m).setWidth 9) =
      BitVec.ofNat 9 (if v.toNat % 2 ^ i = 0 then 1 else v.toNat % 2 ^ i) := by
  have hv := toNat_and_mask v m i hm
  have hz : v &&& m = 0 ↔ v.toNat % 2 ^ i = 0 := by rw [← hv]; exact BitVec.toNat_inj.symm
  simp only [hz]
  split
  · rfl
  · apply BitVec.eq_of_toNat_eq
    rw [BitVec.toNat_setWidth, BitVec.toNat_ofNat, hv]

/-- The RAM bank is the low bits of a byte (spec/20_memory.md R123, R124, R126). -/
theorem masked_bank (v m : Byte) (i : Nat) (hm : m.toNat = 2 ^ i - 1) :
    (v &&& m).setWidth 4 = BitVec.ofNat 4 (v.toNat % 2 ^ i) := by
  apply BitVec.eq_of_toNat_eq
  rw [BitVec.toNat_setWidth, BitVec.toNat_ofNat, toNat_and_mask v m i hm]

/-- MBC5's low eight bits of the ROM bank are replaced (spec/20_memory.md R125). -/
theorem low_bank (r : BitVec 9) (v : Byte) :
    (r &&& 0x100) ||| v.setWidth 9 = BitVec.ofNat 9 (r.toNat / 256 * 256 + v.toNat) := by
  have hr := r.isLt
  have hv := v.isLt
  have hbit : (r &&& 0x100).toNat = 2 ^ 8 * (r.toNat / 256) := by
    have htest : r.getLsbD 8 = decide (r.toNat / 2 ^ 8 % 2 = 1) := Nat.testBit_eq_decide_div_mod_eq
    show (r &&& BitVec.twoPow 9 8).toNat = _
    rw [BitVec.and_twoPow, htest]
    split
    next h =>
      have := of_decide_eq_true h
      show 256 = _
      omega
    next h =>
      have := of_decide_eq_false (Bool.eq_false_iff.mpr h)
      show 0 = _
      omega
  apply BitVec.eq_of_toNat_eq
  rw [BitVec.toNat_or, BitVec.toNat_setWidth, BitVec.toNat_ofNat, hbit, Nat.mod_eq_of_lt (a := v.toNat) (by omega),
    ← Nat.two_pow_add_eq_or_of_lt hv]
  omega

/-- MBC5's bit 8 of the ROM bank is replaced (spec/20_memory.md R125). -/
theorem high_bank (r : BitVec 9) (v : Byte) :
    (r &&& 0x0FF) ||| ((v &&& 0x01).setWidth 9 <<< 8) = BitVec.ofNat 9 (r.toNat % 256 + 256 * (v.toNat % 2)) := by
  have hlow : (r &&& (255 : Nat)).toNat = r.toNat % 2 ^ 8 := toNat_and_mask r (255 : Nat) 8 rfl
  have hbit : ((v &&& 0x01).setWidth 9 <<< 8).toNat = 2 ^ 8 * (v.toNat % 2) := by
    rw [BitVec.toNat_shiftLeft, BitVec.toNat_setWidth, toNat_and_mask v 0x01 1 rfl, Nat.shiftLeft_eq]
    omega
  apply BitVec.eq_of_toNat_eq
  rw [BitVec.toNat_or, BitVec.toNat_ofNat, hlow, hbit, Nat.or_comm,
    ← Nat.two_pow_add_eq_or_of_lt (Nat.mod_lt _ (by decide))]
  omega

theorem enable_bit (v : Byte) : decide ((v &&& 0x0F) = 0x0A) = decide (v.toNat % 16 = 10) := by
  congr 1
  rw [← BitVec.toNat_inj, toNat_and_mask v 0x0F 4 rfl]
  rfl

/-- Settles O48: a control write is `Cart.control`, family by family. Its masks are remainders; what is left is to match
the two chains of address tests. -/
theorem bankControlWrites : Obligations.BankControlWrites := by
  unfold Obligations.BankControlWrites
  intro echo b a v ha
  rw [b.write_control echo a v ha]
  congr 1
  unfold Cart.control
  split
  next hf => rw [if_pos (.inl hf)]
  next hf =>
    rw [enable_bit, coerced_bank v 0x1F 5 rfl, masked_bank v 0x03 2 rfl, hf]
    grind
  next hf =>
    rw [enable_bit, coerced_bank v 0x7F 7 rfl, masked_bank v 0x03 2 rfl, hf]
    grind
  next hf =>
    rw [enable_bit, low_bank, high_bank, masked_bank v 0x0F 4 rfl, hf]
    grind

/-! ### The cartridge windows -/

/-- The ROM windows: the image at the offset of the address, or 0xFF past the image (spec/20_memory.md R118, R119). -/
theorem Bus.read_rom (echo : Bool) (b : Bus) (a : Word) (h : a.toNat < 0x8000)
    (ho : ¬(b.bootLatch = true ∧ a.toNat < 0x100)) :
    b.read echo a = if b.cart.romOffset a.toNat < b.cart.romSize then b.mem.read (romKey (b.cart.romOffset a.toNat))
      else 0xFF := by
  rw [b.read_bank echo a ho (isBankRange_iff.mpr (.inl h)), Bus.mbcRead, if_pos h]

/-- The RAM window: the byte at the offset of the address, or 0xFF where there is none (spec/20_memory.md R120). -/
theorem Bus.read_ram (echo : Bool) (b : Bus) (a : Word) (h : 0xA000 ≤ a.toNat ∧ a.toNat < 0xC000) :
    b.read echo a = (b.cart.ramOffset a.toNat).elim 0xFF fun off => b.mem.read (ramKey off) := by
  rw [b.read_bank echo a (by omega) (isBankRange_iff.mpr (.inr h)), Bus.mbcRead, if_neg (by omega)]
  cases b.cart.ramOffset a.toNat <;> rfl

theorem Bus.write_ram (echo : Bool) (b : Bus) (a : Word) (v : Byte) (h : 0xA000 ≤ a.toNat ∧ a.toNat < 0xC000) :
    b.write echo a v = (b.cart.ramOffset a.toNat).elim b fun off => { b with mem := b.mem.write (ramKey off) v } := by
  rw [b.write_bank echo a v (isBankRange_iff.mpr (.inr h)), Bus.mbcWrite, if_neg (by omega)]
  cases b.cart.ramOffset a.toNat <;> rfl

theorem Cart.shownBank_eq (c : Cart) :
    c.shownBank = if c.family = .romOnly then 1 else c.romBank.toNat % c.romBanks := by
  unfold Cart.shownBank
  split
  next h => rw [if_pos h]
  next h => rw [if_neg h]

theorem Cart.romOffset_low (c : Cart) {n : Nat} (h : n < 0x4000) : c.romOffset n = n := if_pos h

theorem Cart.romOffset_high (c : Cart) {n : Nat} (h : 0x4000 ≤ n) :
    c.romOffset n = (if c.family = .romOnly then 1 else c.romBank.toNat % c.romBanks) * 0x4000 + (n - 0x4000) := by
  rw [Cart.romOffset, if_neg (Nat.not_lt.mpr h), Cart.shownBank_eq]

theorem Cart.ramOffset_eq_none {c : Cart} {n : Nat}
    (h : c.family = .romOnly ∨ c.ramEnabled = false ∨ c.ramBanks = 0 ∨
      c.ramSize ≤ (c.ramBank.toNat % c.ramBanks) * 0x2000 + (n - 0xA000)) : c.ramOffset n = none := by
  unfold Cart.ramOffset
  split
  · rfl
  next hopen =>
    obtain ⟨hf, he, hn⟩ := not_or.mp hopen |>.imp_right not_or.mp
    exact if_neg (Nat.not_lt.mpr (((h.resolve_left hf).resolve_left he).resolve_left hn))

theorem Cart.ramOffset_eq_some {c : Cart} {n : Nat} (hf : c.family ≠ .romOnly) (he : c.ramEnabled = true)
    (hn : c.ramBanks ≠ 0) (hlt : (c.ramBank.toNat % c.ramBanks) * 0x2000 + (n - 0xA000) < c.ramSize) :
    c.ramOffset n = some ((c.ramBank.toNat % c.ramBanks) * 0x2000 + (n - 0xA000)) := by
  simp only [Cart.ramOffset, hf, he, hn, hlt, Bool.true_eq_false, or_self, if_false, if_true]

theorem Cart.Legal.romBanks_pos {c : Cart} (h : c.Legal) : 0 < c.romBanks := by
  obtain ⟨⟨code, hcode⟩, -⟩ := h
  unfold romBanksOf at hcode
  split at hcode
  · rw [← Option.some.inj hcode]
    exact Nat.mul_pos (by decide) (Nat.two_pow_pos _)
  · exact nomatch hcode

/-- Settles O49: the ROM windows by `Bus.read_rom`, the RAM window by `Cart.ramOffset`, open or closed. -/
theorem bankWindows : Obligations.BankWindows := by
  unfold Obligations.BankWindows
  intro echo b a v c n rom off
  have closed (hlo : 0xA000 ≤ n) (hhi : n < 0xC000)
      (h : c.family = .romOnly ∨ c.ramEnabled = false ∨ c.ramBanks = 0 ∨ c.ramSize ≤ off) :
      b.read echo a = 0xFF ∧ b.write echo a v = b := by
    rw [b.read_ram echo a ⟨hlo, hhi⟩, b.write_ram echo a v ⟨hlo, hhi⟩, Cart.ramOffset_eq_none h]
    exact ⟨rfl, rfl⟩
  refine ⟨?low, ?high, ?romOnly, closed, ?opened, ?bounds⟩
  case low =>
    intro hn ho
    rw [b.read_rom echo a (by omega) ho, Cart.romOffset_low _ hn]
  case high =>
    intro hlo hhi
    rw [b.read_rom echo a hhi (by omega), Cart.romOffset_high _ hlo]
  case romOnly =>
    rintro hf (hn | ⟨hlo, hhi⟩)
    · rw [b.write_control echo a v hn, Cart.control, hf]
    · exact (closed hlo hhi (.inl hf)).2
  case opened =>
    intro hlo hhi hf he hn hlt
    have hoff : c.ramOffset n = some off := Cart.ramOffset_eq_some hf he hn hlt
    have hr (m : Memory) : Bus.read echo { b with mem := m } a = m.read (ramKey off) := by
      rw [Bus.read_ram echo _ a ⟨hlo, hhi⟩, hoff]
      rfl
    have hw : b.write echo a v = { b with mem := b.mem.write (ramKey off) v } := by
      rw [b.write_ram echo a v ⟨hlo, hhi⟩, hoff]
      rfl
    exact ⟨hr b.mem, hw, by rw [hw, hr, Memory.read_write_self]⟩
  case bounds => exact fun h => ⟨Nat.mod_lt _ h.romBanks_pos, fun hn => Nat.mod_lt _ (Nat.pos_of_ne_zero hn)⟩

/-! ### Which part of the bus a read depends on -/

/-- The key of storage that a read of an address consults, if it consults one. -/
def Bus.readKey (echo : Bool) (b : Bus) (a : Word) : Option Nat :=
  if b.bootLatch = true ∧ a.toNat < 0x100 then some (bootKey a.toNat)
  else if isBankRange a.toNat then
    if a.toNat < 0x8000 then
      if b.cart.romOffset a.toNat < b.cart.romSize then some (romKey (b.cart.romOffset a.toNat)) else none
    else (b.cart.ramOffset a.toNat).map ramKey
  else match namedRegAt a.toNat with
    | some .boot => some 0xFF50
    | some _ => none
    | none => regionKey echo a.toNat

/-- A read depends on storage only through its key. -/
theorem Bus.read_setMem (echo : Bool) (b : Bus) (m : Memory) (a : Word)
    (h : ∀ k, b.readKey echo a = some k → m.read k = b.mem.read k) :
    Bus.read echo { b with mem := m } a = b.read echo a := by
  revert h
  unfold Bus.readKey Bus.read
  split
  · exact fun h => h _ rfl
  split
  · unfold Bus.mbcRead
    split
    · split
      · exact fun h => h _ rfl
      · exact fun _ => rfl
    · cases b.cart.ramOffset a.toNat with
      | none => exact fun _ => rfl
      | some off => exact fun h => h _ rfl
  cases namedRegAt a.toNat with
  | none =>
    cases regionKey echo a.toNat with
    | none => exact fun _ => rfl
    | some k => exact fun h => h _ rfl
  | some r =>
    cases r with
    | boot => exact fun h => h _ rfl
    | _ => exact fun _ => rfl

theorem Bus.read_writeMem (echo : Bool) (b : Bus) (k : Nat) (v : Byte) (a : Word) (h : b.readKey echo a ≠ some k) :
    Bus.read echo { b with mem := b.mem.write k v } a = b.read echo a :=
  b.read_setMem echo _ a fun _ hk => Memory.read_write_of_ne _ v fun he => h (he ▸ hk)

/-- The key of a read is one of the boot ROM, of the ROM image, of the RAM window, or of the region tables. -/
theorem Bus.readKey_cases {echo : Bool} {b : Bus} {a : Word} {k : Nat} (h : b.readKey echo a = some k) :
    (∃ i, i < 256 ∧ k = bootKey i) ∨ (∃ off, k = romKey off) ∨
    (∃ off, (0xA000 ≤ a.toNat ∧ a.toNat < 0xC000) ∧ b.cart.ramOffset a.toNat = some off ∧ k = ramKey off) ∨
    regionKey echo a.toNat = some k := by
  unfold Bus.readKey at h
  split at h
  next ho => exact .inl ⟨_, ho.2, (Option.some.inj h).symm⟩
  split at h
  next hb =>
    split at h
    · split at h
      · exact .inr (.inl ⟨_, (Option.some.inj h).symm⟩)
      · exact nomatch h
    next hn =>
      obtain ⟨off, hoff, rfl⟩ := Option.map_eq_some_iff.mp h
      exact .inr (.inr (.inl ⟨off, (isBankRange_iff.mp hb).resolve_left hn, hoff, rfl⟩))
  split at h
  next hr =>
    rw [eq_addr_of_namedRegAt hr]
    exact .inr (.inr (.inr h))
  · exact nomatch h
  · exact .inr (.inr (.inr h))

/-- Among the bus's own arrays only the region tables find a key. -/
theorem Bus.regionKey_of_readKey {echo : Bool} {b : Bus} {a : Word} {k : Nat} (h : b.readKey echo a = some k)
    (hk : k < 0x10000) : regionKey echo a.toNat = some k := by
  rcases Bus.readKey_cases h with ⟨i, -, rfl⟩ | ⟨off, rfl⟩ | ⟨off, -, -, rfl⟩ | h
  · unfold bootKey at hk; omega
  · unfold romKey at hk; omega
  · unfold ramKey at hk; omega
  · exact h

/-- Among the keys of the cartridge RAM only the RAM window finds one. -/
theorem Bus.ramOffset_of_readKey {echo : Bool} {b : Bus} {a : Word} {off : Nat} (hl : b.cart.Legal)
    (ho : off < b.cart.ramSize) (h : b.readKey echo a = some (ramKey off)) :
    (0xA000 ≤ a.toNat ∧ a.toNat < 0xC000) ∧ b.cart.ramOffset a.toNat = some off := by
  rcases Bus.readKey_cases h with ⟨i, hi, hk⟩ | ⟨r, hk⟩ | ⟨off', hw, ho', hk⟩ | hr
  · exact absurd hk (keys_apart hl ho (r := 0) (k := 0) hi (by decide)).2.1
  · exact absurd hk (keys_apart hl ho (i := 0) (k := 0) (by decide) (by decide)).1
  · obtain rfl : off = off' := Nat.add_left_cancel hk
    exact ⟨hw, ho'⟩
  · exact absurd rfl (keys_apart hl ho (r := 0) (i := 0) (by decide) (regionKey_lt hr)).2.2.1

/-- A region keeps a byte under its own address, or 0x2000 below it for an echo (spec/20_memory.md R85, R86). -/
theorem regionKey_cases {echo : Bool} {n k : Nat} (h : regionKey echo n = some k) :
    k = n ∨ (echo = true ∧ (0xE000 ≤ n ∧ n < 0xFE00) ∧ k = n - 0x2000) := by
  by_cases he : 0xE000 ≤ n ∧ n < 0xFE00
  · rw [regionKey_echo echo he] at h
    split at h
    next hecho => exact .inr ⟨hecho, he, (Option.some.inj h).symm⟩
    · exact nomatch h
  · unfold regionKey at h
    rw [if_neg he] at h
    grind

theorem isEchoOf_iff {a a' : Word} :
    isEchoOf a a' = true ↔ (0xC000 ≤ a.toNat ∧ a.toNat < 0xDE00) ∧ a'.toNat = a.toNat + 0x2000 := by
  simp only [isEchoOf, Bool.and_eq_true, decide_eq_true_eq, beq_iff_eq, and_congr_right_iff]
  intro h
  rw [← BitVec.toNat_inj, BitVec.toNat_add]
  show a'.toNat = (a.toNat + 0x2000) % 0x10000 ↔ _
  omega

/-- Two addresses that a region keeps under one key are equal, or one is the echo of the other. -/
theorem eq_or_echo_of_regionKey {echo : Bool} {a a' : Word} {k : Nat} (h : regionKey echo a.toNat = some k)
    (h' : regionKey echo a'.toNat = some k) : a' = a ∨ echo = true ∧ (isEchoOf a a' = true ∨ isEchoOf a' a = true) := by
  rw [isEchoOf_iff, isEchoOf_iff]
  rcases regionKey_cases h with hk | ⟨he, hr, hk⟩ <;> rcases regionKey_cases h' with hk' | ⟨he', hr', hk'⟩
  · exact .inl (BitVec.eq_of_toNat_eq (by omega))
  · exact .inr ⟨he', .inl (by omega)⟩
  · exact .inr ⟨he, .inr (by omega)⟩
  · exact .inl (BitVec.eq_of_toNat_eq (by omega))

theorem Cart.eq_of_ramOffset {c : Cart} {n off : Nat} (h : c.ramOffset n = some off) :
    off = (c.ramBank.toNat % c.ramBanks) * 0x2000 + (n - 0xA000) := by
  simp only [Cart.ramOffset] at h
  split at h
  · exact nomatch h
  split at h
  · exact (Option.some.inj h).symm
  · exact nomatch h

/-- A window of the cartridge RAM shows each offset at one address. -/
theorem Cart.ramOffset_inj {c : Cart} {n n' off : Nat} (h : c.ramOffset n = some off) (h' : c.ramOffset n' = some off)
    (hn : 0xA000 ≤ n) (hn' : 0xA000 ≤ n') : n = n' := by
  have := Cart.eq_of_ramOffset h
  have := Cart.eq_of_ramOffset h'
  omega

/-! ### A bus write and the reads it changes -/

/-- A store to a named register leaves the others as they were, but for LY behind LCDC. -/
theorem Bus.namedRead_namedStore_of_ne (b : Bus) {r r' : NamedReg} (v : Byte) (h : r' ≠ r)
    (hl : r = .lcdc → r' ≠ .ly) : (b.namedStore r v).namedRead r' = b.namedRead r' := by
  cases r with
  | lcdc =>
    rw [Bus.namedStore_lcdc]
    cases r' with
    | lcdc => exact absurd rfl h
    | ly => exact absurd rfl (hl rfl)
    | _ => rfl
  | _ => cases r' <;> trivial

theorem Bus.namedStore_storage (b : Bus) {r : NamedReg} (v : Byte) (h : r ≠ .boot) :
    (b.namedStore r v).mem = b.mem ∧ (b.namedStore r v).cart = b.cart ∧ (b.namedStore r v).bootLatch = b.bootLatch := by
  cases r with
  | lcdc => rw [Bus.namedStore_lcdc]; exact ⟨rfl, rfl, rfl⟩
  | boot => exact absurd rfl h
  | _ => exact ⟨rfl, rfl, rfl⟩

/-- A store to a named register changes the reads of that register only, and of LY where it is LCDC. -/
theorem Bus.read_namedStore (echo : Bool) (b : Bus) {r : NamedReg} (v : Byte) (a : Word) (hb : r ≠ .boot)
    (hr : a.toNat ≠ r.addr) (hl : r = .lcdc → a.toNat ≠ NamedReg.ly.addr) :
    (b.namedStore r v).read echo a = b.read echo a := by
  obtain ⟨hm, hc, ht⟩ := b.namedStore_storage v hb
  simp only [Bus.read, Bus.mbcRead, hm, hc, ht]
  cases hn : namedRegAt a.toNat with
  | none => rfl
  | some r' =>
    have ha := eq_addr_of_namedRegAt hn
    have hread := b.namedRead_namedStore_of_ne v (fun e => hr (ha.trans (congrArg _ e)))
      (fun e e' => hl e (ha.trans (congrArg _ e')))
    simp only [hread]

/-! ### OAM DMA -/

/-- Storage after `i` copies from `src`: the first `i` bytes of OAM are what the reads gave before the first copy, and
every other byte is as it was (spec/20_memory.md R97). -/
def DmaCopied (echo : Bool) (b : Bus) (src : Word) (i : Nat) (m : Memory) : Prop :=
  ∀ k, m.read k =
    if 0xFE00 ≤ k ∧ k < 0xFE00 + i then b.read echo (src + BitVec.ofNat 16 (k - 0xFE00)) else b.mem.read k

theorem dmaSource_toNat (v : Byte) {i : Nat} (hi : i < 160) : (w16 v 0 + BitVec.ofNat 16 i).toNat = 256 * v.toNat + i := by
  have hv := v.isLt
  rw [BitVec.toNat_add, BitVec.toNat_ofNat, w16_toNat]
  show (256 * v.toNat + 0 + i % 65536) % 65536 = _
  omega

theorem oam_toNat {i : Nat} (hi : i < 160) : (0xFE00 + BitVec.ofNat 16 i : Word).toNat = 0xFE00 + i := by
  rw [BitVec.toNat_add, BitVec.toNat_ofNat]
  show (0xFE00 + i % 65536) % 65536 = 0xFE00 + i
  omega

/-- No copy changes the source of a later one: where the source is OAM itself, each byte is copied onto itself. -/
theorem DmaCopied.read_source {echo : Bool} {b : Bus} {v : Byte} {i : Nat} {m : Memory}
    (h : DmaCopied echo b (w16 v 0) i m) (hi : i < 160) :
    Bus.read echo { b with mem := m } (w16 v 0 + BitVec.ofNat 16 i) = b.read echo (w16 v 0 + BitVec.ofNat 16 i) := by
  refine b.read_setMem echo m _ fun k hk => ?_
  rw [h k, if_neg]
  intro hoam
  have hr := Bus.regionKey_of_readKey hk (by omega)
  rw [dmaSource_toNat v hi] at hr
  have := regionKey_cases hr
  omega

/-- Copy `i` adds byte `i` of OAM. -/
theorem DmaCopied.copy {echo : Bool} {b : Bus} {v : Byte} {i : Nat} {m : Memory} (h : DmaCopied echo b (w16 v 0) i m) :
    DmaCopied echo b (w16 v 0) (i + 1) (m.write (0xFE00 + i) (b.read echo (w16 v 0 + BitVec.ofNat 16 i))) := by
  intro k
  rw [Memory.read_write]
  split
  next hk => rw [if_pos (by omega), hk, Nat.add_sub_cancel_left]
  next hk =>
    rw [h k]
    exact ite_congr (propext (by omega)) (fun _ => rfl) (fun _ => rfl)

theorem Bus.dmaCopy_copied (echo : Bool) (b : Bus) (v : Byte) (n i : Nat) (m : Memory) (hn : i + n ≤ 160)
    (h : DmaCopied echo b (w16 v 0) i m) :
    ∃ m', Bus.dmaCopy echo (w16 v 0) n i { b with mem := m } = { b with mem := m' } ∧
      DmaCopied echo b (w16 v 0) (i + n) m' := by
  induction n generalizing i m with
  | zero => exact ⟨m, rfl, h⟩
  | succ n ih =>
    rw [Bus.dmaCopy, h.read_source (by omega), Bus.store_oam echo _ i _ (by omega), 
      show i + (n + 1) = i + 1 + n by omega]
    exact ih (i + 1) _ (by omega) h.copy

/-- A write to DMA stores the register and copies 160 bytes, and changes nothing else. -/
theorem Bus.write_dma (echo : Bool) (b : Bus) (v : Byte) :
    ∃ m, b.write echo 0xFF46 v = { b with dma := v, mem := m } ∧ DmaCopied echo { b with dma := v } (w16 v 0) 160 m := by
  have start : DmaCopied echo { b with dma := v } (w16 v 0) 0 b.mem := fun k => by rw [if_neg (by omega)]
  obtain ⟨m, hm, hc⟩ := Bus.dmaCopy_copied echo { b with dma := v } v 160 0 b.mem (by decide) start
  rw [Nat.zero_add] at hc
  refine ⟨m, ?_, hc⟩
  rw [Bus.write, if_pos rfl, Bus.store_named echo b 0xFF46 v (r := .dma) rfl, Bus.namedStore]
  exact hm

theorem Bus.read_oam (echo : Bool) (b : Bus) {i : Nat} (hi : i < 160) :
    b.read echo (0xFE00 + BitVec.ofNat 16 i) = b.mem.read (0xFE00 + i) := by
  have hk : regionKey echo (0xFE00 + BitVec.ofNat 16 i : Word).toNat = some (0xFE00 + i) := by
    rw [oam_toNat hi]
    exact regionKey_self echo (by omega)
  rw [b.read_region echo _ (isBankRange_of_regionKey hk) (namedRegAt_of_lt (by rw [oam_toNat hi]; omega)), hk]
  rfl

/-- Settles O47: the register is stored and `DmaCopied` says which bytes of storage hold what. -/
theorem oamDma : Obligations.OamDma := by
  unfold Obligations.OamDma
  intro echo b v b1 r
  obtain ⟨m, hr, hm⟩ := b.write_dma echo v
  replace hr : r = { b with dma := v, mem := m } := hr
  rw [hr]
  refine ⟨fun i hi => ?oam, fun k hk => ?other, rfl, Bus.read_named echo _ 0xFF46 (r := .dma) rfl⟩
  case oam =>
    have hsrc : (w16 v 0 + BitVec.ofNat 16 i : Word) = BitVec.ofNat 16 (256 * v.toNat + i) := by
      rw [← dmaSource_toNat v hi, BitVec.ofNat_toNat, BitVec.setWidth_eq]
    rw [Bus.read_oam echo _ hi, ← hsrc, hm, if_pos (by omega), Nat.add_sub_cancel_left]
  case other => exact (hm k).trans (if_neg hk)

/-! ### The addresses a write touches -/

/-- Behind a control write only the switchable windows can read otherwise. -/
theorem Bus.read_setCart (echo : Bool) (b : Bus) (c : Cart) (a : Word) (hs : c.romSize = b.cart.romSize)
    (hlow : ¬(0x4000 ≤ a.toNat ∧ a.toNat < 0x8000)) (hram : ¬(0xA000 ≤ a.toNat ∧ a.toNat < 0xC000)) :
    Bus.read echo { b with cart := c } a = b.read echo a := by
  have hbank (d : Bus) (h : isBankRange a.toNat = true) :
      d.mbcRead a.toNat = if a.toNat < d.cart.romSize then d.mem.read (romKey a.toNat) else 0xFF := by
    have hr := isBankRange_iff.mp h
    rw [Bus.mbcRead, if_pos (by omega), Cart.romOffset_low _ (by omega)]
  unfold Bus.read
  split
  · rfl
  split
  next h => rw [hbank _ h, hbank b h, hs]
  next => rfl

/-- What a write at an address other than LCDC, DMA, BOOT and the control range changes is read at that address only,
and at its echo. -/
theorem Bus.read_write_other (echo : Bool) (b : Bus) (a a' : Word) (v : Byte) (hl : b.cart.Legal)
    (hctrl : 0x8000 ≤ a.toNat) (hlcdc : a ≠ 0xFF40) (hdma : a ≠ 0xFF46) (hboot : a ≠ 0xFF50) (hne : a' ≠ a)
    (hecho : ¬(echo = true ∧ (isEchoOf a a' = true ∨ isEchoOf a' a = true))) :
    (b.write echo a v).read echo a' = b.read echo a' := by
  cases hb : isBankRange a.toNat with
  | true =>
    have hw := (isBankRange_iff.mp hb).resolve_left (Nat.not_lt.mpr hctrl)
    rw [b.write_ram echo a v hw]
    cases hoff : b.cart.ramOffset a.toNat with
    | none => rfl
    | some off =>
      refine b.read_writeMem echo _ v a' fun hk => hne ?_
      obtain ⟨hw', hoff'⟩ := Bus.ramOffset_of_readKey hl (Cart.ramOffset_lt hoff) hk
      exact BitVec.eq_of_toNat_eq (Cart.ramOffset_inj hoff' hoff hw'.1 hw.1)
  | false =>
    cases hn : namedRegAt a.toNat with
    | some r =>
      have ha := eq_addr_of_namedRegAt hn
      have at_ne {x : Word} {q : NamedReg} (hx : a ≠ x) (hq : x.toNat = q.addr) : r ≠ q :=
        fun e => hx (BitVec.eq_of_toNat_eq (by rw [ha, hq, e]))
      rw [b.write_named echo a v ha hdma]
      exact b.read_namedStore echo v a' (at_ne hboot rfl) (fun e => hne (BitVec.eq_of_toNat_eq (e.trans ha.symm)))
        fun e => absurd e (at_ne hlcdc rfl)
    | none =>
      rw [b.write_region echo a v hb hn]
      cases hk : regionKey echo a.toNat with
      | none => rfl
      | some k =>
        refine b.read_writeMem echo k v a' fun hk' => ?_
        have hr := Bus.regionKey_of_readKey hk' (regionKey_lt hk)
        exact (eq_or_echo_of_regionKey hk hr).elim hne hecho

/-- A write to DMA is read at DMA and in OAM only. -/
theorem Bus.read_write_dma (echo : Bool) (b : Bus) (a : Word) (v : Byte) (hne : a ≠ 0xFF46)
    (hoam : ¬(0xFE00 ≤ a.toNat ∧ a.toNat < 0xFEA0)) : (b.write echo 0xFF46 v).read echo a = b.read echo a := by
  obtain ⟨m, hw, hm⟩ := b.write_dma echo v
  have hread : Bus.read echo { b with dma := v } a = b.read echo a :=
    b.read_namedStore echo (r := .dma) v a nofun (fun e => hne (BitVec.eq_of_toNat_eq e)) nofun
  rw [hw, ← hread]
  refine Bus.read_setMem echo { b with dma := v } m a fun k hk => ?_
  rw [hm k, if_neg]
  intro hk'
  have := regionKey_cases (Bus.regionKey_of_readKey hk (by omega))
  omega

/-- A write to BOOT is read at BOOT and in the range of the boot ROM only. -/
theorem Bus.read_write_boot (echo : Bool) (b : Bus) (a : Word) (v : Byte) (hne : a ≠ 0xFF50) (ha : 0x100 ≤ a.toNat) :
    (b.write echo 0xFF50 v).read echo a = b.read echo a := by
  rw [Bus.write_boot, Bus.read_above_overlay echo b a ha]
  refine Bus.read_writeMem echo { b with bootLatch := false } 0xFF50 v a fun hk => hne ?_
  have := regionKey_cases (Bus.regionKey_of_readKey hk (by decide))
  exact BitVec.eq_of_toNat_eq (show a.toNat = 0xFF50 by omega)

/-- Settles O43: one case for each kind of address in `touches`. -/
theorem busWriteFrame : Obligations.BusWriteFrame := by
  unfold Obligations.BusWriteFrame
  intro echo b a a' v hl ht
  unfold touches at ht
  split at ht
  next ha =>
    simp only [Bool.or_eq_false_iff, Bool.and_eq_false_iff, decide_eq_false_iff_not] at ht
    rw [b.write_control echo a v ha]
    exact b.read_setCart echo _ a' (b.cart.control_static a.toNat v).2.2.1 (by omega) (by omega)
  split at ht
  next _ ha =>
    obtain ⟨hlcdc, hly⟩ : a' ≠ 0xFF40 ∧ a' ≠ 0xFF44 := by simpa using ht
    rw [ha, Bus.write_lcdc]
    exact b.read_namedStore echo v a' nofun (fun e => hlcdc (BitVec.eq_of_toNat_eq e))
      fun _ e => hly (BitVec.eq_of_toNat_eq e)
  split at ht
  next _ _ ha =>
    simp only [Bool.or_eq_false_iff, beq_eq_false_iff_ne, Bool.and_eq_false_iff, decide_eq_false_iff_not] at ht
    rw [ha]
    exact b.read_write_dma echo a' v ht.1 (by omega)
  split at ht
  next _ _ _ ha =>
    simp only [Bool.or_eq_false_iff, beq_eq_false_iff_ne, decide_eq_false_iff_not, Nat.not_lt] at ht
    rw [ha]
    exact b.read_write_boot echo a' v ht.1 ht.2
  next hctrl hlcdc hdma hboot =>
    obtain ⟨hne, hecho⟩ : a' ≠ a ∧ ¬(echo = true ∧ (isEchoOf a a' = true ∨ isEchoOf a' a = true)) := by
      simpa using ht
    exact b.read_write_other echo a a' v hl (Nat.not_lt.mp hctrl) hlcdc hdma hboot hne hecho

/-- Stores that do not touch an address leave its read alone. -/
theorem Bus.read_writeAll (echo : Bool) (l : List (Word × Byte)) (b : Bus) (a : Word) (hl : b.cart.Legal)
    (h : ∀ x ∈ l, touches echo x.1 a = false) : (b.writeAll echo l).read echo a = b.read echo a := by
  induction l generalizing b with
  | nil => rfl
  | cons x l ih =>
    rw [Bus.writeAll_cons, ih _ (b.write_legal echo x.1 x.2 hl) fun y hy => h y (List.mem_cons_of_mem x hy)]
    exact busWriteFrame echo b x.1 a x.2 hl (h x List.mem_cons_self)

/-- Settles O40: an instruction changes the bus by its stores (`exec_effect`), each of which has the frame of O43. -/
theorem storesAreTheOnlyMemoryChange : Obligations.StoresAreTheOnlyMemoryChange := by
  unfold Obligations.StoresAreTheOnlyMemoryChange
  intro i s t a hl h hs
  obtain ⟨c, hc⟩ := exec_effect i s
  obtain rfl : t = _ := Host.Outcome.next.inj (h.symm.trans hc)
  exact Bus.read_writeAll _ _ s.bus a hl hs

end Sys2Proof.Machine

namespace Sys2Proof.Machine

open Sys2Proof.Claims

/-! ### The header codes -/

theorem familyOf_eq_lookup : ∀ code : Byte, familyOf code = (controllerRows.lookup code).getD (.romOnly, false) := by
  decide

theorem ramSizeOf_eq_lookup : ∀ code : Byte, ramSizeOf code = (ramSizeRows.lookup code).getD (0, 0) := by
  decide

theorem knownControllers_contains :
    ∀ code : Byte, knownControllers.contains code = (controllerRows.lookup code).isSome := by
  decide

theorem ramSizeCode_le_five : ∀ code : Byte, code.toNat ≤ 5 ↔ (ramSizeRows.lookup code).isSome = true := by
  decide

/-- A load warns of a controller-type code outside the table of spec/20_memory.md R111. -/
theorem Image.unknownController_mem_warnings (img : Image) (code : Byte) :
    .unknownController code ∈ img.warnings ↔ code = img.byte 0x0147 ∧ controllerRows.lookup code = none := by
  simp only [Image.warnings, knownControllers_contains, List.mem_append, List.mem_ite_nil_left, List.mem_singleton,
    Warning.unknownController.injEq, reduceCtorEq, and_false, or_false, Bool.not_eq_true, Option.isSome_eq_false_iff,
    Option.isNone_iff_eq_none]
  rw [and_comm]
  exact and_congr_right fun h => by rw [h]

/-- A load warns of a RAM-size code outside the table of spec/20_memory.md R113. -/
theorem Image.unknownRamSize_mem_warnings (img : Image) (code : Byte) :
    .unknownRamSize code ∈ img.warnings ↔ code = img.byte 0x0149 ∧ ramSizeRows.lookup code = none := by
  simp only [Image.warnings, ramSizeCode_le_five, List.mem_append, List.mem_ite_nil_left, List.mem_singleton,
    Warning.unknownRamSize.injEq, reduceCtorEq, and_false, false_or, Bool.not_eq_true, Option.isSome_eq_false_iff,
    Option.isNone_iff_eq_none]
  rw [and_comm]
  exact and_congr_right fun h => by rw [h]

/-! ### Storage as the host supplies it -/

theorem Memory.read_foldr_of_eq {f : Host.Cell → Memory → Memory} {k : Nat} {cs : List Host.Cell}
    (h : ∀ c ∈ cs, ∀ m, (f c m).read k = Memory.read m k) (m : Memory) : Memory.read (cs.foldr f m) k = m.read k := by
  induction cs with
  | nil => rfl
  | cons c cs ih => exact (h c List.mem_cons_self _).trans (ih fun d hd => h d (List.mem_cons_of_mem c hd))

theorem Memory.read_writeIf (m : Memory) {p : Prop} [Decidable p] {k k' : Nat} (v : Byte) (h : p → k' ≠ k) :
    (if p then m.write k v else m).read k' = m.read k' := by
  split
  next hp => exact m.read_write_of_ne v (h hp)
  next => rfl

theorem isRamArray_lt {k : Nat} (h : isRamArray k = true) : k < 0x10000 := by
  simp only [isRamArray, Bool.or_eq_true, Bool.and_eq_true, decide_eq_true_eq] at h
  omega

theorem isIoBlock_lt {k : Nat} (h : isIoBlock k = true) : k < 0x10000 := by
  simp only [isIoBlock, Bool.and_eq_true, decide_eq_true_eq] at h
  omega

/-- After both resets the keys above the bus's own arrays read zero, until the host's images are loaded. -/
theorem Memory.read_postBoot_above (cs : List Host.Cell) {k : Nat} (h : 0x10000 ≤ k) : (Memory.postBoot cs).read k = 0 := by
  refine (Memory.read_foldr_of_eq (fun c _ m => m.read_writeIf c.2 fun hc => ?_) []).trans
    (Memory.unlisted_of_ge (by omega))
  have := isRamArray_lt hc
  omega

theorem Memory.read_bootRom_above (cs : List Host.Cell) {k : Nat} (h : 0x10000 ≤ k) : (Memory.bootRom cs).read k = 0 := by
  have hio : ∀ c ∈ publishedIo, c.1 < 0x10000 := by decide
  have hpub : Memory.read (publishedIo.foldr (fun c m => m.write c.1 0) []) k = 0 :=
    (Memory.read_foldr_of_eq (fun c hc m => m.read_write_of_ne 0 (by have := hio c hc; omega)) []).trans
      (Memory.unlisted_of_ge (by omega))
  refine (Memory.read_foldr_of_eq (fun c _ m => m.read_writeIf c.2 fun hc => ?_) _).trans hpub
  rcases Bool.or_eq_true_iff.mp hc with hc | hc
  · have := isRamArray_lt hc
    omega
  · have := isIoBlock_lt hc
    omega

/-- The ROM image is put under its keys; of two entries for one offset the first counts. -/
theorem Memory.read_loadRom (m : Memory) (img : Image) {off : Nat} (h : off < img.size) :
    (m.loadRom img).read (romKey off) = Memory.find (m.read (romKey off)) img.cells off := by
  obtain ⟨size, cells⟩ := img
  unfold Memory.loadRom
  induction cells with
  | nil => rfl
  | cons c cells ih =>
    rw [List.foldr_cons, Memory.find]
    by_cases hc : c.1 = off
    · rw [if_pos hc, if_pos (hc ▸ h), hc, Memory.read_write_self]
    · rw [if_neg hc, ← ih h]
      exact Memory.read_writeIf _ c.2 fun _ he => hc (Nat.add_left_cancel he).symm

theorem Memory.read_loadRom_below (m : Memory) (img : Image) {k : Nat} (h : k < 0x100000) :
    (m.loadRom img).read k = m.read k :=
  Memory.read_foldr_of_eq (fun c _ m => m.read_writeIf c.2 fun _ => by unfold romKey; omega) m

theorem Memory.read_writeRun_of_ne (key : Nat → Nat) {k : Nat} (vs : List Byte) (m : Memory) (i : Nat)
    (h : ∀ j, j < vs.length → k ≠ key (i + j)) : (m.writeRun key i vs).read k = m.read k := by
  induction vs generalizing m i with
  | nil => rfl
  | cons v vs ih =>
    rw [Memory.writeRun, ih _ _ fun j hj => ?_]
    · exact m.read_write_of_ne v (h 0 (Nat.zero_lt_succ _))
    · rw [show i + 1 + j = i + (j + 1) by omega]
      exact h (j + 1) (Nat.succ_lt_succ hj)

/-- A run of bytes is read back at its keys, and past its end what was there before. -/
theorem Memory.read_writeRun {key : Nat → Nat} (hkey : Function.Injective key) (vs : List Byte) (m : Memory) (i j : Nat) :
    (m.writeRun key i vs).read (key (i + j)) = vs[j]?.getD (m.read (key (i + j))) := by
  induction vs generalizing m i j with
  | nil => rfl
  | cons v vs ih =>
    rw [Memory.writeRun]
    cases j with
    | zero =>
      rw [Memory.read_writeRun_of_ne key vs _ (i + 1) fun j _ he => by have := hkey he; omega]
      exact m.read_write_self _ v
    | succ j =>
      rw [show i + (j + 1) = i + 1 + j by omega, ih, m.read_write_of_ne v fun he => by have := hkey he; omega]
      rfl

/-! ### The save file and the ROM image in the block that is built -/

theorem ramSizeOf_le : ∀ code : Byte, (ramSizeOf code).1 ≤ 0x20000 := by
  decide

theorem Memory.loadSave_of_none {cart : Cart} {save : Option (List Byte)} (m : Memory)
    (h : save = none ∨ cart.battery = false) : m.loadSave cart save = m := by
  unfold Memory.loadSave
  split
  next bs =>
    refine if_neg fun hc => ?_
    exact h.elim nofun fun hb => Bool.false_ne_true (hb.symm.trans hc.1)
  next => rfl

theorem Memory.read_loadSave (m : Memory) {cart : Cart} (bs : List Byte) (hb : cart.battery = true)
    (hs : 0 < cart.ramSize) {off : Nat} (ho : off < cart.ramSize) :
    (m.loadSave cart (some bs)).read (ramKey off) = bs[off]?.getD (m.read (ramKey off)) := by
  have h := Memory.read_writeRun (key := ramKey) (fun _ _ => Nat.add_left_cancel) (bs.take cart.ramSize) m 0 off
  rw [Nat.zero_add, List.getElem?_take_of_lt ho] at h
  exact (congrArg (Memory.read · (ramKey off)) (if_pos ⟨hb, hs⟩)).trans h

/-- The save file fills the cartridge RAM only, which lies below the ROM image. -/
theorem Memory.read_loadSave_rom (m : Memory) {cart : Cart} (save : Option (List Byte)) (hc : cart.ramSize ≤ 0x20000)
    (off : Nat) : (m.loadSave cart save).read (romKey off) = m.read (romKey off) := by
  unfold Memory.loadSave
  split
  next bs =>
    split
    next =>
      refine Memory.read_writeRun_of_ne ramKey _ m 0 fun j hj => ?_
      have := List.length_take_le cart.ramSize bs
      unfold romKey ramKey
      omega
    next => rfl
  next => rfl

/-- What a load takes from the header (spec/20_memory.md R111-R114). -/
theorem Cart.load_eq_some {img : Image} {c : Cart} (h : Cart.load img = some c) :
    (img.byte 0x0148).toNat ≤ 8 ∧ c.romBanks = 2 * 2 ^ (img.byte 0x0148).toNat ∧ c.romSize = img.size ∧
    (c.family, c.battery) = familyOf (img.byte 0x0147) ∧ (c.ramSize, c.ramBanks) = ramSizeOf (img.byte 0x0149) := by
  obtain ⟨banks, hbanks, rfl⟩ := Option.map_eq_some_iff.mp h
  unfold romBanksOf at hbanks
  split at hbanks
  next hcode => exact ⟨hcode, (Option.some.inj hbanks).symm, rfl, rfl, rfl⟩
  next => exact nomatch hbanks

theorem Cart.load_eq_none {img : Image} : Cart.load img = none ↔ 8 < (img.byte 0x0148).toNat := by
  simp [Cart.load, romBanksOf]

theorem Cart.load_ramSize_le {img : Image} {c : Cart} (h : Cart.load img = some c) : c.ramSize ≤ 0x20000 := by
  obtain ⟨-, -, -, -, hram⟩ := Cart.load_eq_some h
  exact Nat.le_trans (Nat.le_of_eq (congrArg Prod.fst hram)) (ramSizeOf_le _)

theorem BootRom.length_bytes_le {r : BootRom} {bs : List Byte} (h : r.bytes = some bs) : bs.length ≤ 256 := by
  cases r with
  | absent => exact nomatch h
  | missingFile =>
    obtain rfl := Option.some.inj h
    exact Nat.le_of_eq List.length_replicate
  | image l =>
    obtain rfl := Option.some.inj h
    exact List.length_take_le _ _

/-- Power-on is refused where the load is, and otherwise builds a block with the loaded controller over storage with the
image, the save file and the boot ROM put in that order over bytes that are zero. -/
theorem powerOn_cases (h : Supply) :
    (Cart.load (h.cartridge.getD Image.blank) = none ∧
      powerOn h = .error (.romSizeCode ((h.cartridge.getD Image.blank).byte 0x0148))) ∨
    ∃ (s : State) (m : Memory) (boot : List Byte), powerOn h = .ok s ∧
      Cart.load (h.cartridge.getD Image.blank) = some s.bus.cart ∧
      s.bus.mem = ((m.loadRom (h.cartridge.getD Image.blank)).loadSave s.bus.cart h.saveRam).writeRun bootKey 0 boot ∧
      (∀ k, 0x10000 ≤ k → m.read k = 0) ∧ boot.length ≤ 256 := by
  unfold powerOn
  dsimp only
  cases hc : Cart.load (h.cartridge.getD Image.blank) with
  | none => exact .inl ⟨rfl, rfl⟩
  | some cart =>
    cases hb : h.bootRom.bytes with
    | none => exact .inr ⟨_, _, [], rfl, rfl, rfl, fun k => Memory.read_postBoot_above h.config.initialRam, by decide⟩
    | some boot =>
      exact .inr ⟨_, _, boot, rfl, rfl, rfl, fun k => Memory.read_bootRom_above h.config.initialRam,
        BootRom.length_bytes_le hb⟩

/-- The boot ROM lies below the cartridge RAM. -/
theorem Memory.read_writeRun_boot (m : Memory) {boot : List Byte} (hboot : boot.length ≤ 256) {k : Nat}
    (hk : 0x20000 ≤ k) : (m.writeRun bootKey 0 boot).read k = m.read k :=
  Memory.read_writeRun_of_ne bootKey boot m 0 fun j hj => by unfold bootKey; omega

/-- The first `n` bytes of a list, with zeros past its end. -/
theorem take_append_zeros (bs : List Byte) (n : Nat) :
    bs.take n ++ List.replicate (n - bs.length) 0 = (List.range n).map fun off => bs[off]?.getD 0 := by
  apply List.ext_getElem
  · simp only [List.length_append, List.length_take, List.length_replicate, List.length_map, List.length_range]
    omega
  · intro off h h'
    rw [List.length_map, List.length_range] at h'
    rw [List.getElem_append, List.getElem_map, List.getElem_range]
    split
    next ht =>
      rw [List.length_take] at ht
      rw [List.getElem_take, List.getElem?_eq_getElem (by omega), Option.getD_some]
    next ht =>
      rw [List.length_take] at ht
      rw [List.getElem_replicate, List.getElem?_eq_none (by omega), Option.getD_none]

/-- Settles O60: the header codes as tables, the warnings, the RAM handed to the host, and the storage that `powerOn`
builds (`powerOn_cases`), read key range by key range. -/
theorem cartridgeAndSaveRamAreLoaded : Obligations.CartridgeAndSaveRamAreLoaded := by
  unfold Obligations.CartridgeAndSaveRamAreLoaded
  refine ⟨familyOf_eq_lookup, ramSizeOf_eq_lookup,
    fun img code => ⟨img.unknownController_mem_warnings code, img.unknownRamSize_mem_warnings code⟩, ?handed, ?built⟩
  case handed =>
    intro s
    refine ⟨fun hb => if_neg fun h => Bool.false_ne_true (hb.symm.trans h.1), fun hb hs => ⟨_, if_pos ⟨hb, hs⟩, ?_, ?_⟩⟩
    · rw [List.length_map, List.length_range]
    · intro off ho
      rw [List.getElem?_map, List.getElem?_range ho]
      rfl
  case built =>
    intro h img code
    rcases powerOn_cases h with ⟨hnone, herr⟩ | ⟨s, m, boot, hok, hload, hmem, hzero, hboot⟩
    · have hcode := Cart.load_eq_none.mp hnone
      exact ⟨fun _ => herr, fun hle => absurd hcode (Nat.not_lt.mpr hle), fun s hs => nomatch herr.symm.trans hs⟩
    obtain ⟨hcode, hbanks, hsize, hfamily, hram⟩ := Cart.load_eq_some hload
    have hle := Cart.load_ramSize_le hload
    refine ⟨fun hgt => absurd hcode (Nat.not_le.mpr hgt), fun _ => ⟨s, hok⟩, fun t ht => ?_⟩
    obtain rfl : s = t := Except.ok.inj (hok.symm.trans ht)
    have hbase (off : Nat) (ho : off < s.bus.cart.ramSize) : (m.loadRom img).read (ramKey off) = 0 := by
      rw [Memory.read_loadRom_below _ _ (by unfold ramKey; omega)]
      exact hzero _ (by unfold ramKey; omega)
    have hramKey (off : Nat) : s.bus.mem.read (ramKey off) =
        ((m.loadRom img).loadSave s.bus.cart h.saveRam).read (ramKey off) := by
      rw [hmem]
      exact Memory.read_writeRun_boot _ hboot (by unfold ramKey; omega)
    refine ⟨hbanks, hsize, hfamily, hram, fun off ho => ?rom, fun bs hs hb hpos => ?save, fun hnone off ho => ?noSave⟩
    case rom =>
      rw [hmem, Memory.read_writeRun_boot _ hboot (by unfold romKey; omega), Memory.read_loadSave_rom _ _ hle,
        Memory.read_loadRom _ _ ho, hzero _ (by unfold romKey; omega), Image.byte, if_pos ho]
    case save =>
      rw [take_append_zeros]
      refine (if_pos ⟨hb, hpos⟩).trans (congrArg some (List.map_congr_left fun off ho => ?_))
      replace ho := List.mem_range.mp ho
      rw [hramKey, hs, Memory.read_loadSave _ bs hb hpos ho, hbase off ho]
    case noSave => rw [hramKey, Memory.loadSave_of_none _ hnone, hbase off ho]

end Sys2Proof.Machine

namespace Sys2Proof

open Machine

/-! ### Operand fields and their codes

The value of an operand field is the code of what it names (R142-R145). -/

theorem regField_code : ∀ y < 8, (regField y).elim 6 R8.code = y := by decide

theorem regField_some {y : Nat} {r : R8} (hy : y < 8) (h : regField y = some r) : r.code = y := by
  simpa [h] using regField_code y hy

theorem regField_none {y : Nat} (hy : y < 8) (h : regField y = none) : 6 = y := by
  simpa [h] using regField_code y hy

theorem rpField_code : ∀ p < 4, (rpField p).code = p := by decide

theorem rp2Field_code : ∀ p < 4, (rp2Field p).code = p := by decide

theorem condField_code : ∀ y < 4, (condField y).code = y := by decide

theorem bitField_toNat : ∀ y < 8, (bitField y).toNat = y := by decide

theorem aluField_code : ∀ y < 8, (aluField y).code = y := by decide

theorem rotField_code : ∀ y < 8, (rotField y).code = y := by decide

/-! ### The bytes of each shape of instruction (R146-R148) -/

/-- `i` is well formed, and its bytes are the opcode `n` and after it those of `operand`. -/
structure Instr.Coded (i : Instr) (n : Nat) (operand : List Byte) : Prop where
  wf : i.wf = true
  encode : encode i = BitVec.ofNat 8 n :: operand

theorem Instr.Coded.cast {i : Instr} {n m : Nat} {operand : List Byte} (h : i.Coded n operand) (hn : n = m) :
    i.Coded m operand := hn ▸ h

theorem Instr.Coded.castOperand {i : Instr} {n m : Nat} {b : Byte} (h : i.Coded n [BitVec.ofNat 8 m])
    (hm : m = b.toNat) : i.Coded n [b] := by
  rwa [hm, BitVec.ofNat_toNat, BitVec.setWidth_eq] at h

theorem coded_ldRegRegI (dst r : R8) : (ldRegRegI dst r).Coded (0x40 + 8 * dst.code + r.code) [] := by
  cases dst <;> cases r <;> exact ⟨rfl, rfl⟩

theorem coded_ldRegImmI (dst : R8) (n8 : Byte) : (ldRegImmI n8 dst).Coded (0x06 + 8 * dst.code) [n8] := by
  cases dst <;> exact ⟨rfl, rfl⟩

theorem coded_ldRegMemI (dst : R8) : (ldRegMemI dst).Coded (0x46 + 8 * dst.code) [] := by
  cases dst <;> exact ⟨rfl, rfl⟩

theorem coded_ldMemRegI (r : R8) : (ldMemRegI r).Coded (0x70 + r.code) [] := by
  cases r <;> exact ⟨rfl, rfl⟩

theorem coded_ldPairImmI (p : Rp) (n16 : Word) : (ldPairImmI n16 p).Coded (0x01 + 16 * p.code) [lo n16, hi n16] := by
  cases p <;> exact ⟨rfl, rfl⟩

theorem coded_addHlI (p : Rp) : (addHlI p).Coded (0x09 + 16 * p.code) [] := by cases p <;> exact ⟨rfl, rfl⟩

theorem coded_incPairI (p : Rp) : (incPairI p).Coded (0x03 + 16 * p.code) [] := by cases p <;> exact ⟨rfl, rfl⟩

theorem coded_decPairI (p : Rp) : (decPairI p).Coded (0x0B + 16 * p.code) [] := by cases p <;> exact ⟨rfl, rfl⟩

theorem coded_pushI (p : Rp2) : (pushI p).Coded (0xC5 + 16 * p.code) [] := by cases p <;> exact ⟨rfl, rfl⟩

theorem coded_popI (p : Rp2) : (popI p).Coded (0xC1 + 16 * p.code) [] := by cases p <;> exact ⟨rfl, rfl⟩

theorem coded_incI (x : Loc) : (incI x).Coded (0x04 + 8 * x.code) [] := by
  rcases x with r | _
  · cases r <;> exact ⟨rfl, rfl⟩
  · exact ⟨rfl, rfl⟩

theorem coded_decI (x : Loc) : (decI x).Coded (0x05 + 8 * x.code) [] := by
  rcases x with r | _
  · cases r <;> exact ⟨rfl, rfl⟩
  · exact ⟨rfl, rfl⟩

theorem coded_aluRegI (op : AluOp) (r : R8) : (aluRegI op r).Coded (0x80 + 8 * op.code + r.code) [] := by
  cases op <;> cases r <;> exact ⟨rfl, rfl⟩

theorem coded_aluMemI (op : AluOp) : (aluMemI op).Coded (0x86 + 8 * op.code) [] := by
  cases op <;> exact ⟨rfl, rfl⟩

theorem coded_aluImmI (op : AluOp) (n8 : Byte) : (aluImmI n8 op).Coded (0xC6 + 8 * op.code) [n8] := by
  cases op <;> exact ⟨rfl, rfl⟩

theorem coded_jpIfI (cc : Cond) (a16 : Word) : (jpIfI a16 cc).Coded (0xC2 + 8 * cc.code) [lo a16, hi a16] := by
  cases cc <;> exact ⟨rfl, rfl⟩

theorem coded_jrIfI (cc : Cond) (e8 : Byte) : (jrIfI e8 cc).Coded (0x20 + 8 * cc.code) [e8] := by
  cases cc <;> exact ⟨rfl, rfl⟩

theorem coded_callIfI (cc : Cond) (a16 : Word) : (callIfI a16 cc).Coded (0xC4 + 8 * cc.code) [lo a16, hi a16] := by
  cases cc <;> exact ⟨rfl, rfl⟩

theorem coded_retIfI (cc : Cond) : (retIfI cc).Coded (0xC0 + 8 * cc.code) [] := by cases cc <;> exact ⟨rfl, rfl⟩

theorem coded_rstI (t : BitIdx) : (rstI t).Coded (0xC7 + 8 * t.toNat) [] := by cases t <;> exact ⟨rfl, rfl⟩

theorem coded_rotI (op : RotOp) (x : Loc) : (rotI op x).Coded 0xCB [BitVec.ofNat 8 (8 * op.code + x.code)] := by
  rcases x with r | _
  · cases op <;> cases r <;> exact ⟨rfl, rfl⟩
  · cases op <;> exact ⟨rfl, rfl⟩

theorem coded_bitI (b : BitIdx) (x : Loc) : (bitI b x).Coded 0xCB [BitVec.ofNat 8 (0x40 + 8 * b.toNat + x.code)] := by
  rcases x with r | _
  · cases b <;> cases r <;> exact ⟨rfl, rfl⟩
  · cases b <;> exact ⟨rfl, rfl⟩

theorem coded_resI (b : BitIdx) (x : Loc) : (resI b x).Coded 0xCB [BitVec.ofNat 8 (0x80 + 8 * b.toNat + x.code)] := by
  rcases x with r | _
  · cases b <;> cases r <;> exact ⟨rfl, rfl⟩
  · cases b <;> exact ⟨rfl, rfl⟩

theorem coded_setI (b : BitIdx) (x : Loc) : (setI b x).Coded 0xCB [BitVec.ofNat 8 (0xC0 + 8 * b.toNat + x.code)] := by
  rcases x with r | _
  · cases b <;> cases r <;> exact ⟨rfl, rfl⟩
  · cases b <;> exact ⟨rfl, rfl⟩

/-! ### Every byte of the two tables -/

/-- An entry of the primary table is right for the opcode `n`: with every operand, its instruction is well formed and has
the bytes that name it. -/
def Entry.RightFor (n : Nat) : Entry → Prop
  | .f1 i => i.Coded n []
  | .f2 k => ∀ b, (k b).Coded n [b]
  | .f3 k => ∀ w, (k w).Coded n [lo w, hi w]
  | .f4 => n = 0xCB

/-- The eleven holes (R149) lie in the columns z = 3, 4 and 5 of the quarter x = 3 of the table. -/
theorem illegal_wf_of_fields : ∀ op : Byte, op.toNat / 64 = 3 →
    (op.toNat % 8 = 3 ∧ 2 ≤ op.toNat / 8 % 8 ∧ op.toNat / 8 % 8 ≤ 5 ∨ op.toNat % 8 = 4 ∧ 4 ≤ op.toNat / 8 % 8 ∨
      op.toNat % 8 = 5 ∧ op.toNat / 8 % 8 % 2 = 1 ∧ op.toNat / 8 % 8 ≠ 1) →
    (Instr.illegal op).wf = true := by decide

theorem coded_illegal {op : Byte} (h : (Instr.illegal op).wf = true) : (Instr.illegal op).Coded op.toNat [] :=
  ⟨h, by rw [BitVec.ofNat_toNat, BitVec.setWidth_eq]; rfl⟩

/-- Entry by entry of the table: the fields x, y, z of the opcode are the codes of the operands. -/
theorem primaryEntry_rightFor (op : Byte) : (primaryEntry op).RightFor op.toNat := by
  have hlt := op.isLt
  have hy : op.toNat / 8 % 8 < 8 := Nat.mod_lt _ (by decide)
  have hz : op.toNat % 8 < 8 := Nat.mod_lt _ (by decide)
  have hp := rpField_code (op.toNat / 8 % 8 / 2) (by omega)
  have hp2 := rp2Field_code (op.toNat / 8 % 8 / 2) (by omega)
  have hop := aluField_code (op.toNat / 8 % 8) hy
  have hbit := bitField_toNat (op.toNat / 8 % 8) hy
  unfold primaryEntry
  dsimp only
  split
  -- x = 0, z = 0: NOP, LD (a16),SP, STOP, JR.
  case h_1 =>
    split
    case h_1 => exact Instr.Coded.cast ⟨rfl, rfl⟩ (by lia)
    case h_2 | h_3 | h_4 => exact fun _ => Instr.Coded.cast ⟨rfl, rfl⟩ (by lia)
    case h_5 =>
      have hcc := condField_code (op.toNat / 8 % 8 - 4) (by lia)
      exact fun e8 => (coded_jrIfI _ e8).cast (by lia)
  -- x = 0, z = 1: LD rr,n16 and ADD HL,rr.
  case h_2 =>
    split
    · exact fun n16 => (coded_ldPairImmI _ n16).cast (by lia)
    · exact (coded_addHlI _).cast (by lia)
  -- x = 0, z = 2: the loads and stores of A through a pair.
  case h_3 => split <;> exact Instr.Coded.cast ⟨rfl, rfl⟩ (by lia)
  -- x = 0, z = 3: INC rr and DEC rr.
  case h_4 =>
    split
    · exact (coded_incPairI _).cast (by lia)
    · exact (coded_decPairI _).cast (by lia)
  -- x = 0, z = 4: INC.
  case h_5 =>
    split
    next r hr => exact (coded_incI (.reg r)).cast (by rw [Loc.code, regField_some hy hr]; lia)
    next hr => exact (coded_incI .atHL).cast (by rw [Loc.code, regField_none hy hr]; lia)
  -- x = 0, z = 5: DEC.
  case h_6 =>
    split
    next r hr => exact (coded_decI (.reg r)).cast (by rw [Loc.code, regField_some hy hr]; lia)
    next hr => exact (coded_decI .atHL).cast (by rw [Loc.code, regField_none hy hr]; lia)
  -- x = 0, z = 6: LD r,n8 and LD (HL),n8.
  case h_7 =>
    split
    next r hr => exact fun n8 => (coded_ldRegImmI r n8).cast (by rw [regField_some hy hr]; lia)
    next hr =>
      have := regField_none hy hr
      exact fun _ => Instr.Coded.cast ⟨rfl, rfl⟩ (by lia)
  -- x = 0, z = 7: the accumulator and flag operations.
  case h_8 => split <;> exact Instr.Coded.cast ⟨rfl, rfl⟩ (by lia)
  -- x = 1: LD and HALT.
  case h_9 =>
    split
    next dst r hd hr => exact (coded_ldRegRegI dst r).cast (by rw [regField_some hy hd, regField_some hz hr]; lia)
    next dst hd hr =>
      have := regField_none hz hr
      exact (coded_ldRegMemI dst).cast (by rw [regField_some hy hd]; lia)
    next r hd hr =>
      have := regField_none hy hd
      exact (coded_ldMemRegI r).cast (by rw [regField_some hz hr]; lia)
    next hd hr =>
      have := regField_none hy hd
      have := regField_none hz hr
      exact Instr.Coded.cast ⟨rfl, rfl⟩ (by lia)
  -- x = 2: the ALU operations.
  case h_10 =>
    split
    next r hr => exact (coded_aluRegI _ r).cast (by rw [regField_some hz hr]; lia)
    next hr =>
      have := regField_none hz hr
      exact (coded_aluMemI _).cast (by lia)
  -- x = 3, z = 0: RET cc, LDH and the SP offsets.
  case h_11 =>
    split
    case h_5 =>
      have hcc := condField_code (op.toNat / 8 % 8) (by lia)
      exact (coded_retIfI _).cast (by lia)
    all_goals exact fun _ => Instr.Coded.cast ⟨rfl, rfl⟩ (by lia)
  -- x = 3, z = 1: POP, RET, RETI, JP HL, LD SP,HL.
  case h_12 =>
    split
    · exact (coded_popI _).cast (by lia)
    · split <;> exact Instr.Coded.cast ⟨rfl, rfl⟩ (by lia)
  -- x = 3, z = 2: JP cc and the absolute loads and stores of A.
  case h_13 =>
    split
    case h_1 | h_3 => exact Instr.Coded.cast ⟨rfl, rfl⟩ (by lia)
    case h_2 | h_4 => exact fun _ => Instr.Coded.cast ⟨rfl, rfl⟩ (by lia)
    case h_5 =>
      have hcc := condField_code (op.toNat / 8 % 8) (by lia)
      exact fun a16 => (coded_jpIfI _ a16).cast (by lia)
  -- x = 3, z = 3: JP, 0xCB, DI, EI, and holes.
  case h_14 =>
    split
    case h_1 => exact fun _ => Instr.Coded.cast ⟨rfl, rfl⟩ (by lia)
    case h_2 => show op.toNat = 0xCB; lia
    case h_3 | h_4 => exact Instr.Coded.cast ⟨rfl, rfl⟩ (by lia)
    case h_5 => exact coded_illegal (illegal_wf_of_fields op (by lia) (by lia))
  -- x = 3, z = 4: CALL cc, and holes.
  case h_15 =>
    split
    · have hcc := condField_code (op.toNat / 8 % 8) (by lia)
      exact fun a16 => (coded_callIfI _ a16).cast (by lia)
    · exact coded_illegal (illegal_wf_of_fields op (by lia) (by lia))
  -- x = 3, z = 5: PUSH, CALL, and holes.
  case h_16 =>
    split
    · exact (coded_pushI _).cast (by lia)
    · split
      · exact fun _ => Instr.Coded.cast ⟨rfl, rfl⟩ (by lia)
      · exact coded_illegal (illegal_wf_of_fields op (by lia) (by lia))
  -- x = 3, z = 6: the ALU operations on an immediate.
  case h_17 => exact fun n8 => (coded_aluImmI _ n8).cast (by lia)
  -- x = 3, z = 7: RST.
  case h_18 => exact (coded_rstI _).cast (by lia)

/-- The extended table has no hole: every byte of it is the second byte of its instruction (R148, R150). -/
theorem extendedEntry_coded (cbop : Byte) : (extendedEntry cbop).Coded 0xCB [cbop] := by
  have hlt := cbop.isLt
  have hy : cbop.toNat / 8 % 8 < 8 := Nat.mod_lt _ (by decide)
  have hz : cbop.toNat % 8 < 8 := Nat.mod_lt _ (by decide)
  have hrot := rotField_code (cbop.toNat / 8 % 8) hy
  have hbit := bitField_toNat (cbop.toNat / 8 % 8) hy
  unfold extendedEntry
  dsimp only
  split
  next r hx hr => exact (coded_rotI _ (.reg r)).castOperand (by rw [Loc.code, regField_some hz hr]; lia)
  next hx hr => exact (coded_rotI _ .atHL).castOperand (by rw [Loc.code, regField_none hz hr]; lia)
  next r hx hr => exact (coded_bitI _ (.reg r)).castOperand (by rw [Loc.code, regField_some hz hr]; lia)
  next hx hr => exact (coded_bitI _ .atHL).castOperand (by rw [Loc.code, regField_none hz hr]; lia)
  next r hx hr => exact (coded_resI _ (.reg r)).castOperand (by rw [Loc.code, regField_some hz hr]; lia)
  next hx hr => exact (coded_resI _ .atHL).castOperand (by rw [Loc.code, regField_none hz hr]; lia)
  next r hr _ _ _ => exact (coded_setI _ (.reg r)).castOperand (by rw [Loc.code, regField_some hz hr]; lia)
  next hr _ _ _ => exact (coded_setI _ .atHL).castOperand (by rw [Loc.code, regField_none hz hr]; lia)

/-- Settles O3, by the entry of the primary table that the first byte selects. -/
theorem encodeOfDecode : Obligations.EncodeOfDecode := by
  unfold Obligations.EncodeOfDecode
  intro b0 b1 b2
  have h0 : BitVec.ofNat 8 b0.toNat = b0 := by rw [BitVec.ofNat_toNat, BitVec.setWidth_eq]
  have h := primaryEntry_rightFor b0
  unfold decode3 lengthOf
  split
  next i hi =>
    rw [hi] at h
    exact ⟨h.wf, h.encode.trans (by rw [h0]; rfl)⟩
  next k hk =>
    rw [hk] at h
    exact ⟨(h b1).wf, (h b1).encode.trans (by rw [h0]; rfl)⟩
  next k hk =>
    rw [hk] at h
    exact ⟨(h _).wf, (h _).encode.trans (by rw [h0, lo_w16, hi_w16]; rfl)⟩
  next hk =>
    rw [hk] at h
    obtain rfl : b0 = 0xCB := BitVec.eq_of_toNat_eq h
    exact ⟨(extendedEntry_coded b1).wf, (extendedEntry_coded b1).encode⟩

/-! ### Decoding a list of bytes -/

theorem decode_of_length_le {b0 : Byte} {rest : List Byte} (h : lengthOf b0 ≤ rest.length + 1) :
    decode (b0 :: rest) =
      .ok (decode3 b0 (rest.getD 0 0) (rest.getD 1 0), (b0 :: rest).drop (lengthOf b0)) :=
  if_neg (Nat.not_lt.mpr h)

theorem decode_of_f1 {b0 : Byte} {i : Instr} (h : primaryEntry b0 = .f1 i) (rest : List Byte) :
    decode (b0 :: rest) = .ok (i, rest) := by
  have hl : lengthOf b0 = 1 := by rw [lengthOf, h]
  rw [decode_of_length_le (by simp [hl]), decode3, h, hl]
  rfl

theorem decode_of_f2 {b0 b1 : Byte} {k : Byte → Instr} (h : primaryEntry b0 = .f2 k) (rest : List Byte) :
    decode (b0 :: b1 :: rest) = .ok (k b1, rest) := by
  have hl : lengthOf b0 = 2 := by rw [lengthOf, h]
  rw [decode_of_length_le (by simp [hl]), decode3, h, hl]
  rfl

theorem decode_of_f3 {b0 b1 b2 : Byte} {k : Word → Instr} (h : primaryEntry b0 = .f3 k) (rest : List Byte) :
    decode (b0 :: b1 :: b2 :: rest) = .ok (k (w16 b2 b1), rest) := by
  have hl : lengthOf b0 = 3 := by rw [lengthOf, h]
  rw [decode_of_length_le (by simp [hl]), decode3, h, hl]
  rfl

theorem decode_of_f4 {b0 : Byte} (h : primaryEntry b0 = .f4) (cbop : Byte) (rest : List Byte) :
    decode (b0 :: cbop :: rest) = .ok (extendedEntry cbop, rest) := by
  have hl : lengthOf b0 = 2 := by rw [lengthOf, h]
  rw [decode_of_length_le (by simp [hl]), decode3, h, hl]
  rfl

/-- Decoding the bytes of `i` with any others after them gives back `i` and those others. -/
def Instr.RoundTrips (i : Instr) : Prop := ∀ rest, decode (encode i ++ rest) = .ok (i, rest)

theorem roundTrips_of_f1 {i : Instr} {b0 : Byte} (he : encode i = [b0]) (hp : primaryEntry b0 = .f1 i) :
    i.RoundTrips := by
  intro rest
  rw [he]
  exact decode_of_f1 hp rest

theorem roundTrips_of_f2 {i : Instr} {b0 b1 : Byte} {k : Byte → Instr} (he : encode i = [b0, b1])
    (hp : primaryEntry b0 = .f2 k) (hk : k b1 = i) : i.RoundTrips := by
  intro rest
  rw [he, ← hk]
  exact decode_of_f2 hp rest

theorem roundTrips_of_f3 {i : Instr} {b0 : Byte} {w : Word} {k : Word → Instr} (he : encode i = [b0, lo w, hi w])
    (hp : primaryEntry b0 = .f3 k) (hk : k w = i) : i.RoundTrips := by
  intro rest
  rw [he, ← hk]
  exact (decode_of_f3 hp rest).trans (by rw [w16_hi_lo])

theorem roundTrips_of_f4 {i : Instr} {cbop : Byte} (he : encode i = [0xCB, cbop]) (hx : extendedEntry cbop = i) :
    i.RoundTrips := by
  intro rest
  rw [he, ← hx]
  exact decode_of_f4 rfl cbop rest

theorem primaryEntry_of_illegal {op : Byte} (h : op ∈ illegalOpcodes) : primaryEntry op = .f1 (.illegal op) := by
  simp only [illegalOpcodes, List.mem_cons, List.not_mem_nil, or_false] at h
  rcases h with rfl | rfl | rfl | rfl | rfl | rfl | rfl | rfl | rfl | rfl | rfl <;> rfl

/-- Shape by shape: the opcode byte selects the entry of its shape. -/
theorem roundTrips_of_wf (i : Instr) (hi : i.wf = true) : i.RoundTrips := by
  revert i
  apply Instr_by_shape
  case h_ldRegReg => intro dst r _; cases dst <;> cases r <;> exact roundTrips_of_f1 rfl rfl
  case h_ldRegImm => intro n dst _; cases dst <;> exact roundTrips_of_f2 rfl rfl rfl
  case h_ldRegMem => intro dst _; cases dst <;> exact roundTrips_of_f1 rfl rfl
  case h_ldMemReg => intro r _; cases r <;> exact roundTrips_of_f1 rfl rfl
  case h_loadA | h_storeA =>
    intro m _
    cases m with
    | abs a16 => exact roundTrips_of_f3 rfl rfl rfl
    | high a8 => exact roundTrips_of_f2 rfl rfl rfl
    | _ => exact roundTrips_of_f1 rfl rfl
  case h_ldPairImm => intro n p _; cases p <;> exact roundTrips_of_f3 rfl rfl rfl
  case h_push | h_pop | h_addHl | h_incPair | h_decPair => intro p _; cases p <;> exact roundTrips_of_f1 rfl rfl
  case h_alu =>
    intro op x _
    rcases x with r | _ | n
    · cases op <;> cases r <;> exact roundTrips_of_f1 rfl rfl
    · cases op <;> exact roundTrips_of_f1 rfl rfl
    · cases op <;> exact roundTrips_of_f2 rfl rfl rfl
  case h_inc | h_dec =>
    intro x _
    rcases x with r | _
    · cases r <;> exact roundTrips_of_f1 rfl rfl
    · exact roundTrips_of_f1 rfl rfl
  case h_rot | h_bit | h_res | h_set =>
    intro y x _
    rcases x with r | _
    · cases y <;> cases r <;> exact roundTrips_of_f4 rfl rfl
    · cases y <;> exact roundTrips_of_f4 rfl rfl
  case h_jpIf | h_callIf => intro n cc _; cases cc <;> exact roundTrips_of_f3 rfl rfl rfl
  case h_jrIf => intro n cc _; cases cc <;> exact roundTrips_of_f2 rfl rfl rfl
  case h_retIf => intro cc _; cases cc <;> exact roundTrips_of_f1 rfl rfl
  case h_rst => intro t _; cases t <;> exact roundTrips_of_f1 rfl rfl
  case h_ldMemSp | h_jp | h_call => intro n _; exact roundTrips_of_f3 rfl rfl rfl
  case h_ldMemImm | h_ldHlSp | h_addSp | h_jr | h_stop => intro n _; exact roundTrips_of_f2 rfl rfl rfl
  case h_illegal => intro op hop; exact roundTrips_of_f1 rfl (primaryEntry_of_illegal (List.contains_iff_mem.mp hop))
  case h_prefixCB => intro h; exact nomatch h
  all_goals exact fun _ => roundTrips_of_f1 rfl rfl

/-- Settles O2 (`roundTrips_of_wf`). -/
theorem decodeOfEncode : Obligations.DecodeOfEncode := fun i rest hi => roundTrips_of_wf i hi rest

/-! ### The length and the holes -/

/-- The F2 and F3 opcodes of R151 are those whose entry takes an operand of one byte, or of two. -/
theorem lengthOf_eq : ∀ b : Byte, lengthOf b =
    if b = 0xCB ∨ b ∈ Claims.twoByteOpcodes then 2 else if b ∈ Claims.threeByteOpcodes then 3 else 1 := by decide

theorem lengthOf_le_three (b : Byte) : lengthOf b ≤ 3 := by
  unfold lengthOf
  split <;> decide

theorem lengthOf_pos (b : Byte) : 0 < lengthOf b := by
  unfold lengthOf
  split <;> decide

theorem decode_three (b0 b1 b2 : Byte) :
    decode [b0, b1, b2] = .ok (decode3 b0 b1 b2, [b0, b1, b2].drop (lengthOf b0)) :=
  decode_of_length_le (lengthOf_le_three b0)

/-- Settles O4: the length by evaluation on every byte, and three bytes are never too few. -/
theorem instructionLengths : Obligations.InstructionLengths := by
  unfold Obligations.InstructionLengths
  exact fun b => ⟨lengthOf_eq b, decode_three b⟩

/-- Settles O1: each first byte selects the entry of its format. -/
theorem decodedWords : Obligations.DecodedWords := by
  unfold Obligations.DecodedWords
  exact ⟨decode_of_f1 rfl _, decode_of_f2 rfl _, decode_of_f3 rfl _, decode_of_f3 rfl _, decode_of_f3 rfl _,
    decode_of_f2 rfl _, decode_of_f2 rfl _, decode_of_f1 rfl _, decode_of_f4 rfl _ _, decode_of_f4 rfl _ _⟩

theorem decode3_of_illegal {b0 : Byte} (h : b0 ∈ illegalOpcodes) (b1 b2 : Byte) : decode3 b0 b1 b2 = .illegal b0 := by
  rw [decode3, primaryEntry_of_illegal h]

/-- An illegal instruction is read from its own byte only, since its bytes are those it was read from. -/
theorem eq_of_decode3_illegal {b0 b1 b2 op : Byte} (h : decode3 b0 b1 b2 = .illegal op) :
    op = b0 ∧ b0 ∈ illegalOpcodes := by
  obtain ⟨hwf, henc⟩ := encodeOfDecode b0 b1 b2
  rw [h] at hwf henc
  obtain ⟨n, hn⟩ := Nat.exists_eq_succ_of_ne_zero (Nat.ne_of_gt (lengthOf_pos b0))
  rw [hn, List.take_succ_cons] at henc
  obtain ⟨rfl, -⟩ := List.cons.inj henc
  exact ⟨rfl, List.contains_iff_mem.mp hwf⟩

/-- Settles O5, from the round trip. The name stands in `Laws` because `illegalOpcodes` is the list of the holes. -/
theorem Laws.illegalOpcodes : Obligations.IllegalOpcodes := by
  unfold Obligations.IllegalOpcodes
  refine ⟨fun b0 b1 b2 => ⟨?_, fun h => ⟨b0, decode3_of_illegal h b1 b2⟩⟩,
    fun b0 b1 b2 op h => (eq_of_decode3_illegal h).1, ?_, fun op s => rfl⟩
  · rintro ⟨op, h⟩
    exact (eq_of_decode3_illegal h).2
  · intro cbop b2 op h
    exact absurd (eq_of_decode3_illegal h).2 (by decide)

namespace Machine

/-! ### The fatal outcome of a fetch -/

/-- A CPU that fetches does nothing else in its step. -/
theorem cpuStep_of_fetches {s : State} (h : Claims.Fetches s) : cpuStep s = fetchExecute s := by
  obtain ⟨hf, hh, hi⟩ := h
  have hw : s.wake = s := if_neg (by simp [hh])
  unfold cpuStep
  dsimp only
  rw [hw, if_neg (by simp [hf]), if_neg hi, if_neg (by simp [hh])]

/-- The driver ends with a fatal CPU step (R425). -/
theorem step_of_raiseFatal {s : State} {a : Word} (hs : s.cpu.fatal = false)
    (h : cpuStep s.openFrame = .next (s.openFrame.raiseFatal a)) : step s = .next (s.openFrame.raiseFatal a) := by
  unfold step blockStep
  rw [if_neg (by simp [hs]), iteration, h]
  rfl

/-- The fatal outcome undoes the move of PC past an opcode. -/
theorem State.raiseFatal_setPc (s : State) (n : Word) :
    (s.setPc (s.cpu.pc + n)).raiseFatal ((s.setPc (s.cpu.pc + n)).cpu.pc - n) = s.raiseFatal s.cpu.pc := by
  rw [State.setPc_cpu, BitVec.add_sub_cancel]
  rfl

/-- The three causes of the fatal outcome (R354, R337, R331) all name the opcode at PC and leave PC there. -/
theorem fetchExecute_fatal {s : State} (h : s.read s.cpu.pc ∈ illegalOpcodes ∨ s.implementsNext = false ∨
    (s.read s.cpu.pc = 0x10 ∧ s.config.stopBehaviour = .fatal)) : fetchExecute s = .next (s.raiseFatal s.cpu.pc) := by
  unfold fetchExecute
  split
  next hn =>
    rcases h with hop | hno | ⟨hop, hstop⟩
    · have hl : lengthOf (s.read s.cpu.pc) = 1 := by rw [lengthOf, primaryEntry_of_illegal hop]
      rw [State.fetched, decode3_of_illegal hop, State.pastInstr, hl]
      exact congrArg Host.Outcome.next (s.raiseFatal_setPc 1)
    · exact nomatch hn.symm.trans hno
    · rw [State.fetched, hop, State.pastInstr, hop]
      show stopOp (s.setPc (s.cpu.pc + 2)) = _
      rw [stopOp, State.setPc_config, hstop]
      exact congrArg Host.Outcome.next (s.raiseFatal_setPc 2)
  next => rfl

theorem powerOn_fatal {h : Supply} {s : State} (hp : powerOn h = .ok s) : s.cpu.fatal = false := by
  unfold powerOn at hp
  dsimp only at hp
  split at hp
  · exact nomatch hp
  split at hp <;> (obtain rfl := Except.ok.inj hp; rfl)

theorem State.implements_iff (s : State) (t : Table) (op : Byte) :
    s.implements t op = true ↔ (t, op) ∉ s.config.notImplemented := by
  simp [State.implements]

theorem State.implementsNext_iff (s : State) :
    s.implementsNext = true ↔ (Table.primary, s.read s.cpu.pc) ∉ s.config.notImplemented ∧
      (s.read s.cpu.pc = 0xCB → (Table.extended, s.read (s.cpu.pc + 1)) ∉ s.config.notImplemented) := by
  unfold State.implementsNext opcodesAt
  split
  next h => simp [h, State.implements_iff]
  next h => simpa [State.implements_iff] using fun _ k => absurd k h

/-- Settles O30: `fetchExecute_fatal` names the causes, and the driver ends with the fatal CPU step. -/
theorem fatalDecodeOutcome : Obligations.FatalDecodeOutcome := by
  unfold Obligations.FatalDecodeOutcome
  refine ⟨?_, fun s hs => if_pos hs, fun _ _ => powerOn_fatal, State.implementsNext_iff⟩
  intro s u hs hu h
  exact step_of_raiseFatal hs ((cpuStep_of_fetches hu).trans (fetchExecute_fatal h))

end Machine

end Sys2Proof

namespace Sys2Proof.Machine

/-! ### Loads and stores of A

The effective address and the change of HL are those of the operand form (R202); only the high page is written with a sum. -/

theorem highPage_eq_ofNat (a8 : Byte) : highPage a8 = BitVec.ofNat 16 (0xFF00 + a8.toNat) := by
  apply BitVec.eq_of_toNat_eq
  have h : (highPage a8).toNat = 256 * 0xFF + a8.toNat := w16_toNat 0xFF a8
  rw [h, BitVec.toNat_ofNat]
  omega

/-- Settles O8: the dispatch of each operand form (`exec_loadAI`); LDH reads at `highPage`. -/
theorem loadsOfA : Obligations.LoadsOfA := by
  unfold Obligations.LoadsOfA
  intro s
  simp only [← highPage_eq_ofNat]
  exact ⟨⟨rfl, exec_loadAI .bc s⟩, ⟨rfl, exec_loadAI .de s⟩, fun a16 => ⟨rfl, exec_loadAI (.abs a16) s⟩,
    fun a8 => ⟨rfl, exec_loadAI (.high a8) s⟩, ⟨rfl, exec_loadAI .highC s⟩, ⟨rfl, exec_loadAI .hlInc s⟩,
    rfl, exec_loadAI .hlDec s⟩

/-- Settles O9: the dispatch of each operand form (`exec_storeAI`); LDH stores at `highPage`. -/
theorem storesOfA : Obligations.StoresOfA := by
  unfold Obligations.StoresOfA
  intro s
  simp only [← highPage_eq_ofNat]
  exact ⟨⟨rfl, exec_storeAI .bc s⟩, ⟨rfl, exec_storeAI .de s⟩, fun a16 => ⟨rfl, exec_storeAI (.abs a16) s⟩,
    fun a8 => ⟨rfl, exec_storeAI (.high a8) s⟩, ⟨rfl, exec_storeAI .highC s⟩, ⟨rfl, exec_storeAI .hlInc s⟩,
    rfl, exec_storeAI .hlDec s⟩

/-! ### Byte and word loads by operand -/

/-- Settles O7: the bytes and the dispatch of each shape of instruction. -/
theorem byteLoadsAndStores : Obligations.ByteLoadsAndStores := by
  unfold Obligations.ByteLoadsAndStores
  intro s
  exact ⟨fun dst r => ⟨(coded_ldRegRegI dst r).encode, exec_ldRegRegI dst r s⟩,
    fun dst n8 => ⟨(coded_ldRegImmI dst n8).encode, exec_ldRegImmI n8 dst s⟩,
    fun dst => ⟨(coded_ldRegMemI dst).encode, exec_ldRegMemI dst s⟩,
    fun r => ⟨(coded_ldMemRegI r).encode, exec_ldMemRegI r s⟩, fun _ => ⟨rfl, rfl⟩⟩

/-- Settles O10: the bytes and the dispatch of LD rr,n16; the other two are one instruction each. -/
theorem wordLoads : Obligations.WordLoads := by
  unfold Obligations.WordLoads
  intro s
  exact ⟨fun p n16 => ⟨(coded_ldPairImmI p n16).encode, exec_ldPairImmI n16 p s⟩, fun _ => ⟨rfl, rfl⟩, rfl, rfl⟩

/-! ### SP plus a signed byte -/

/-- The sign-extended byte is the signed one mod 2^16 (R260). -/
theorem sext8_toNat (e : Byte) : (sext8 e).toNat = (e.toInt % 65536).toNat := BitVec.toNat_ofInt e.toInt

theorem add_sext8 (w : Word) (e : Byte) : w + sext8 e = BitVec.ofInt 16 (w.toNat + e.toInt) := by
  have hw : BitVec.ofInt 16 w.toNat = w := by rw [BitVec.ofInt_natCast, BitVec.ofNat_toNat, BitVec.setWidth_eq]
  rw [BitVec.ofInt_add, hw]
  rfl

/-- `spAdd` in numbers, under each rule of `SpOffsetFlags` (R261). -/
theorem spAdd_eq (rule : SpOffsetFlags) (sp : Word) (e8 : Byte) : spAdd rule sp e8 =
    (BitVec.ofInt 16 (sp.toNat + e8.toInt),
      ⟨false, false, (Claims.spCarries rule sp.toNat e8).1, (Claims.spCarries rule sp.toNat e8).2⟩) := by
  cases rule with
  | lowByte =>
    simp only [spAdd, Claims.spCarries, add_sext8, toNat_and_mask sp 0x000F 4 rfl, toNat_and_mask e8 0x0F 4 rfl,
      toNat_and_mask sp 0x00FF 8 rfl, Nat.reducePow]
  | bits11And15 =>
    simp only [spAdd, Claims.spCarries, add_sext8, toNat_and_mask sp 0x0FFF 12 rfl,
      toNat_and_mask (sext8 e8) 0x0FFF 12 rfl, sext8_toNat, Nat.reducePow]

/-- Settles O11: both instructions put the result of `spAdd` in place, and `spAdd_eq` says what it is. -/
theorem stackPointerOffset : Obligations.StackPointerOffset := by
  unfold Obligations.StackPointerOffset
  intro e8 s
  have hr := spAdd_eq s.config.spOffsetFlags s.cpu.sp e8
  refine ⟨rfl, rfl, ?toHl, ?toSp⟩
  case toHl =>
    show ldHlSp e8 s = _
    rw [ldHlSp, hr]
    rfl
  case toSp =>
    show addSp e8 s = _
    rw [addSp, hr]
    rfl

/-! ### The stack -/

/-- A charged push, as a whole state (R200). -/
theorem State.charge_push16 (s : State) (w : Word) (n : Nat) : (s.push16 w).charge n = { s with
    cpu := { s.cpu with sp := s.cpu.sp - 2, cost := n }
    bus := (s.bus.write s.config.echoRam (s.cpu.sp - 1) (hi w)).write s.config.echoRam (s.cpu.sp - 2) (lo w) } := by
  rw [← State.push16_bus, State.charge, State.push16_cpu]
  rfl

/-- Settles O12: a push is `State.charge_push16`; what POP AF loads is the halves of the popped word. -/
theorem pushAndPop : Obligations.PushAndPop := by
  unfold Obligations.PushAndPop
  intro s
  refine ⟨fun p => ⟨(coded_pushI p).encode, ?push⟩, fun p => (coded_popI p).encode, ?popPair, ?popAf⟩
  case push =>
    rw [exec_pushI, pushPair, done, State.charge_push16]
  case popPair =>
    intro pq hpq
    rw [exec_popI]
    simp only [List.mem_cons, List.not_mem_nil, or_false] at hpq
    rcases hpq with rfl | rfl | rfl <;> rfl
  case popAf =>
    have h : s.dropTop.cpu.setStackPair .af s.top16 = { s.dropTop.cpu with
        a := s.read (s.cpu.sp + 1), f := Flags.unpack (s.read s.cpu.sp) } := by
      simp only [Cpu.setStackPair, Cpu.setAf, State.top16, hi_w16, lo_w16]
    show popPair .af s = _
    rw [popPair, h]
    rfl

end Sys2Proof.Machine

namespace Sys2Proof.Machine

/-! ### 8-bit arithmetic in numbers (spec/41_alu8.md)

Each result and flag function of the model, as the numbers its rule gives; Z is set where the number is 0 mod 256. -/

theorem beq_zero_eq_decide_toNat (v : Byte) : (v == 0) = decide (v.toNat = 0) :=
  decide_eq_decide.mpr BitVec.toNat_inj.symm

theorem ofNat_beq_zero (t : Nat) : (BitVec.ofNat 8 t == 0) = decide (t % 256 = 0) := by
  rw [beq_zero_eq_decide_toNat, BitVec.toNat_ofNat]

theorem ofInt_beq_zero (t : Int) : (BitVec.ofInt 8 t == 0) = decide (t % 256 = 0) := by
  rw [beq_zero_eq_decide_toNat, BitVec.toNat_ofInt, decide_eq_decide]
  omega

theorem low_nibble_toNat (v : Byte) : (v &&& 0x0F).toNat = v.toNat % 16 := toNat_and_mask v 0x0F 4 rfl

/-- `add8` in numbers (R211). -/
theorem add8_eq (a b : Byte) (c : Bool) : add8 a b c = (BitVec.ofNat 8 (a.toNat + b.toNat + c.toNat),
    ⟨decide ((a.toNat + b.toNat + c.toNat) % 256 = 0), false,
      decide (a.toNat % 16 + b.toNat % 16 + c.toNat > 15), decide (a.toNat + b.toNat + c.toNat > 255)⟩) := by
  simp only [add8, ofNat_beq_zero, low_nibble_toNat]

/-- `sub8` in numbers (R212). -/
theorem sub8_eq (a b : Byte) (c : Bool) : sub8 a b c = (BitVec.ofInt 8 (a.toNat - b.toNat - c.toNat),
    ⟨decide (((a.toNat : Int) - b.toNat - c.toNat) % 256 = 0), true,
      decide ((a.toNat : Int) % 16 - b.toNat % 16 - c.toNat < 0),
      decide ((a.toNat : Int) - b.toNat - c.toNat < 0)⟩) := by
  simp only [sub8, ofInt_beq_zero, low_nibble_toNat, Int.natCast_emod, Int.cast_ofNat_Int]

/-- `inc8` in numbers (R238). -/
theorem inc8_eq (v : Byte) (f : Flags) : inc8 v f =
    (BitVec.ofNat 8 (v.toNat + 1), ⟨decide (v.toNat = 255), false, decide (v.toNat % 16 = 15), f.c⟩) := by
  have hv : v + 1 = BitVec.ofNat 8 (v.toNat + 1) := by
    rw [BitVec.ofNat_add, BitVec.ofNat_toNat, BitVec.setWidth_eq]
    rfl
  have hz : (v + 1 == 0) = decide (v.toNat = 255) := by
    rw [hv, ofNat_beq_zero, decide_eq_decide]
    omega
  have hh : ((v &&& 0x0F) == 0x0F) = decide (v.toNat % 16 = 15) := by
    rw [← low_nibble_toNat]
    exact decide_eq_decide.mpr BitVec.toNat_inj.symm
  rw [inc8, hz, hh, hv]

/-- `dec8` in numbers (R240). -/
theorem dec8_eq (v : Byte) (f : Flags) : dec8 v f =
    (BitVec.ofNat 8 (v.toNat + 255), ⟨decide (v.toNat = 1), true, decide (v.toNat % 16 = 0), f.c⟩) := by
  have hv : v - 1 = BitVec.ofNat 8 (v.toNat + 255) := by
    rw [BitVec.ofNat_add, BitVec.ofNat_toNat, BitVec.setWidth_eq]
    exact BitVec.sub_eq_add_neg v 1
  have hz : (v - 1 == 0) = decide (v.toNat = 1) := by
    rw [hv, ofNat_beq_zero, decide_eq_decide]
    omega
  have hh : ((v &&& 0x0F) == 0x00) = decide (v.toNat % 16 = 0) := by
    rw [← low_nibble_toNat]
    exact beq_zero_eq_decide_toNat _
  rw [dec8, hz, hh, hv]

/-! ### The ALU instructions by source operand -/

theorem encode_aluI (op : AluOp) (x : Src) : encode (aluI op x) = Claims.aluBytes op x := by
  cases x with
  | reg r => exact (coded_aluRegI op r).encode
  | atHL => exact (coded_aluMemI op).encode
  | imm n8 => exact (coded_aluImmI op n8).encode

/-- An ALU instruction changes A, the flags and the cost only. -/
theorem exec_aluI_of_result {op : AluOp} {x : Src} {s : State} {r : Byte × Flags}
    (h : aluResult s.config.andSetsH op s.cpu.a (s.readSrc x) s.cpu.f = r) :
    exec (aluI op x) s = .next { s with cpu := { s.cpu with a := r.1, f := r.2, cost := Claims.aluCost x } } := by
  subst h
  rw [exec_aluI]
  cases x <;> rfl

/-- Settles O13: both are `add8` of A and the operand, in numbers (`add8_eq`). -/
theorem addAndAdc : Obligations.AddAndAdc := by
  unfold Obligations.AddAndAdc
  intro x s
  exact ⟨encode_aluI .add x, encode_aluI .adc x, exec_aluI_of_result (op := .add) (add8_eq _ _ false),
    exec_aluI_of_result (op := .adc) (add8_eq _ _ s.cpu.f.c)⟩

/-- Settles O14: all three are `sub8` of A and the operand, in numbers (`sub8_eq`). -/
theorem subSbcAndCp : Obligations.SubSbcAndCp := by
  unfold Obligations.SubSbcAndCp
  intro x s
  have hsub := sub8_eq s.cpu.a (s.readSrc x) false
  simp only [Bool.toNat_false, Int.cast_ofNat_Int, Int.sub_zero] at hsub
  refine ⟨encode_aluI .sub x, encode_aluI .sbc x, encode_aluI .cp x, exec_aluI_of_result (op := .sub) hsub,
    exec_aluI_of_result (op := .sbc) (sub8_eq _ _ s.cpu.f.c), ?cp⟩
  case cp =>
    exact exec_aluI_of_result (op := .cp) (congrArg (fun r => (s.cpu.a, r.2)) hsub)

/-- Settles O15: each is `logic` of its result. -/
theorem logicInstructions : Obligations.LogicInstructions := by
  unfold Obligations.LogicInstructions
  intro x s
  exact ⟨encode_aluI .and x, encode_aluI .xor x, encode_aluI .or x, exec_aluI_of_result (op := .and) rfl,
    exec_aluI_of_result (op := .xor) rfl, exec_aluI_of_result (op := .or) rfl⟩

/-- Settles O16: `inc8` and `dec8` in numbers, put where the operand was read. -/
theorem incrementAndDecrement : Obligations.IncrementAndDecrement := by
  unfold Obligations.IncrementAndDecrement
  intro s
  refine ⟨fun x => ⟨(coded_incI x).encode, (coded_decI x).encode⟩, fun r => ?incReg, fun r => ?decReg, ?incHL, ?decHL⟩
  case incReg => rw [exec_incI, incLoc, inc8_eq]; rfl
  case decReg => rw [exec_decI, decLoc, dec8_eq]; rfl
  case incHL => rw [exec_incI, incLoc, inc8_eq]; rfl
  case decHL => rw [exec_decI, decLoc, dec8_eq]; rfl

/-! ### Decimal adjustment and the flag instructions -/

/-- The two parts of DAA's adjustment byte add without a carry, and its bits 6 and 5 tell whether 0x60 is in it. -/
theorem daa_parts : ∀ high low : Bool, let adj : Byte := (if high then 0x60 else 0) ||| (if low then 0x06 else 0)
    adj.toNat = (if high = true then 0x60 else 0) + (if low = true then 0x06 else 0) ∧
      ((adj &&& 0x60) != 0) = decide (adj.toNat ≥ 0x60) := by decide

/-- `daa` adds or subtracts the byte that `daaAdjust` says in numbers (R242). -/
theorem daa_adjusts (a : Byte) (f : Flags) : ∃ adj : Byte, adj.toNat = Claims.daaAdjust a.toNat f ∧
    daa a f = let r := if f.n then a - adj else a + adj
      (r, ⟨r == 0, f.n, false, decide (adj.toNat ≥ 0x60)⟩) := by
  have hhigh : (if f.n then f.c else f.c || decide (a.toNat > 0x99)) =
      decide (f.c = true ∨ (f.n = false ∧ a.toNat > 0x99)) := by cases f.n <;> simp
  have hlow : (if f.n then f.h else f.h || decide (a.toNat % 16 > 0x09)) =
      decide (f.h = true ∨ (f.n = false ∧ a.toNat % 16 > 9)) := by cases f.n <;> simp
  obtain ⟨hadj, hc⟩ := daa_parts (decide (f.c = true ∨ (f.n = false ∧ a.toNat > 0x99)))
    (decide (f.h = true ∨ (f.n = false ∧ a.toNat % 16 > 9)))
  refine ⟨_, hadj.trans ?_, ?_⟩
  · simp only [Claims.daaAdjust, decide_eq_true_eq]
  · simp only [daa, low_nibble_toNat, hhigh, hlow, hc]

/-- The result of DAA, in numbers (R242). -/
def daaResult (a : Nat) (f : Flags) : Nat :=
  if f.n = true then (a + 256 - Claims.daaAdjust a f) % 256 else (a + Claims.daaAdjust a f) % 256

/-- `daa` in numbers (R242). -/
theorem daa_eq (a : Byte) (f : Flags) : daa a f = (BitVec.ofNat 8 (daaResult a.toNat f),
    ⟨decide (daaResult a.toNat f = 0), f.n, false, decide (Claims.daaAdjust a.toNat f ≥ 0x60)⟩) := by
  obtain ⟨adj, hadj, hdaa⟩ := daa_adjusts a f
  have hr : (if f.n then a - adj else a + adj).toNat = daaResult a.toNat f := by
    rw [daaResult, ← hadj]
    split
    · rw [BitVec.toNat_sub]
      omega
    · exact BitVec.toNat_add a adj
  simp only [hdaa, beq_zero_eq_decide_toNat, hr, hadj]
  rw [← hr, BitVec.ofNat_toNat, BitVec.setWidth_eq]

theorem exec_daa (s : State) : exec .daa s = .next { s with cpu := { s.cpu with
    a := (daa s.cpu.a s.cpu.f).1, f := (daa s.cpu.a s.cpu.f).2, cost := 4 } } := rfl

theorem not_eq_ofNat (a : Byte) : ~~~a = BitVec.ofNat 8 (255 - a.toNat) := by
  rw [← BitVec.toNat_inj, BitVec.toNat_not, BitVec.toNat_ofNat]
  omega

/-- Settles O17: DAA is `daa_eq`; the complement of A is 255 - A. -/
theorem decimalAdjustAndFlagInstructions : Obligations.DecimalAdjustAndFlagInstructions := by
  unfold Obligations.DecimalAdjustAndFlagInstructions
  intro s
  refine ⟨rfl, rfl, rfl, rfl, ?daa, ?cpl, rfl, rfl⟩
  case daa => rw [exec_daa, daa_eq]; rfl
  case cpl => rw [← not_eq_ofNat]; rfl

/-! ### Laws of the arithmetic -/

/-- Settles O25, from `add8` and `sub8` in numbers. -/
theorem addThenSubRoundTrip : Obligations.AddThenSubRoundTrip := by
  unfold Obligations.AddThenSubRoundTrip
  intro a b
  have ha := a.isLt
  have hb := b.isLt
  simp only [add8_eq, sub8_eq, Bool.toNat_false, Nat.add_zero, Int.cast_ofNat_Int, Int.sub_zero, BitVec.toNat_ofNat,
    implies_true, and_true]
  refine ⟨?result, decide_eq_decide.mpr ?carry, decide_eq_decide.mpr ?halfCarry⟩
  case result =>
    apply BitVec.eq_of_toNat_eq
    rw [BitVec.toNat_ofInt]
    omega
  case carry => omega
  case halfCarry => omega

/-- A decimal is packed by adding 6 for each ten. -/
theorem packedDecimal_toNat {n : Nat} (h : n < 100) : (Claims.packedDecimal n).toNat = n + 6 * (n / 10) := by
  rw [Claims.packedDecimal, BitVec.toNat_ofNat]
  omega

theorem eq_packedDecimal_iff {v : Byte} {n : Nat} (h : n < 100) :
    v = Claims.packedDecimal n ↔ v.toNat = n + 6 * (n / 10) := by
  rw [← packedDecimal_toNat h, BitVec.toNat_inj]

/-- DAA corrects a sum of packed decimals: 6 where the units carry, 0x60 where the tens do. -/
theorem daaAdjust_add8_packedDecimal {m n : Nat} (hm : m < 100) (hn : n < 100) {r : Byte × Flags}
    (hr : r = add8 (Claims.packedDecimal m) (Claims.packedDecimal n) false) : Claims.daaAdjust r.1.toNat r.2 =
      (if 100 ≤ m + n then 0x60 else 0) + (if 10 ≤ m % 10 + n % 10 then 0x06 else 0) := by
  have wrap (t : Nat) : (t > 255 ∨ t % 2 ^ 8 > 0x99) ↔ t > 0x99 := by omega
  simp only [hr, add8_eq, Claims.daaAdjust, packedDecimal_toNat hm, packedDecimal_toNat hn, Bool.toNat_false,
    BitVec.toNat_ofNat, decide_eq_true_eq, true_and, Nat.add_zero, wrap]
  congr 1
  · exact ite_congr (propext (by omega)) (fun _ => rfl) (fun _ => rfl)
  · exact ite_congr (propext (by omega)) (fun _ => rfl) (fun _ => rfl)

/-- DAA corrects a difference of packed decimals: 6 where the units borrow, 0x60 where the tens do. -/
theorem daaAdjust_sub8_packedDecimal {m n : Nat} (hm : m < 100) (hn : n < 100) {r : Byte × Flags}
    (hr : r = sub8 (Claims.packedDecimal m) (Claims.packedDecimal n) false) : Claims.daaAdjust r.1.toNat r.2 =
      (if m < n then 0x60 else 0) + (if m % 10 < n % 10 then 0x06 else 0) := by
  simp only [hr, sub8_eq, Claims.daaAdjust, packedDecimal_toNat hm, packedDecimal_toNat hn, Bool.toNat_false,
    decide_eq_true_eq, Bool.true_eq_false, false_and, or_false]
  congr 1
  · exact ite_congr (propext (by omega)) (fun _ => rfl) (fun _ => rfl)
  · exact ite_congr (propext (by omega)) (fun _ => rfl) (fun _ => rfl)

/-- ADD of packed decimals and then DAA, by the carries out of the tens and out of the units. -/
theorem daa_add8_packedDecimal {m n : Nat} (hm : m < 100) (hn : n < 100) {r : Byte × Flags}
    (hr : r = add8 (Claims.packedDecimal m) (Claims.packedDecimal n) false) :
    (daa r.1 r.2).1 = Claims.packedDecimal ((m + n) % 100) ∧ (daa r.1 r.2).2.c = decide (100 ≤ m + n) ∧
      (daa r.1 r.2).2.h = false := by
  have hadj := daaAdjust_add8_packedDecimal hm hn hr
  have hsum : r.1.toNat = (m + 6 * (m / 10) + (n + 6 * (n / 10))) % 256 := by
    rw [hr, add8_eq, BitVec.toNat_ofNat, packedDecimal_toNat hm, packedDecimal_toNat hn]
    rfl
  have hN : r.2.n = false := by rw [hr]; rfl
  rw [eq_packedDecimal_iff (Nat.mod_lt _ (by decide)), daa_eq, hadj, decide_eq_decide, BitVec.toNat_ofNat,
    daaResult, hN, if_neg Bool.false_ne_true, hadj, hsum]
  refine ⟨?digits, ?carry, rfl⟩
  case digits => split <;> split <;> omega
  case carry => split <;> split <;> omega

/-- SUB of packed decimals and then DAA, by the borrows of the tens and of the units. -/
theorem daa_sub8_packedDecimal {m n : Nat} (hm : m < 100) (hn : n < 100) {r : Byte × Flags}
    (hr : r = sub8 (Claims.packedDecimal m) (Claims.packedDecimal n) false) :
    (daa r.1 r.2).1 = Claims.packedDecimal ((m + 100 - n) % 100) ∧ (daa r.1 r.2).2.c = decide (m < n) ∧
      (daa r.1 r.2).2.h = false := by
  have hadj := daaAdjust_sub8_packedDecimal hm hn hr
  have hdiff : r.1.toNat = (m + 6 * (m / 10) + 256 - (n + 6 * (n / 10))) % 256 := by
    rw [hr, sub8_eq, BitVec.toNat_ofInt, packedDecimal_toNat hm, packedDecimal_toNat hn, Bool.toNat_false]
    omega
  have hN : r.2.n = true := by rw [hr]; rfl
  rw [eq_packedDecimal_iff (Nat.mod_lt _ (by decide)), daa_eq, hadj, decide_eq_decide, BitVec.toNat_ofNat,
    daaResult, hN, if_pos rfl, hadj, hdiff]
  refine ⟨?digits, ?carry, rfl⟩
  case digits => split <;> split <;> omega
  case carry => split <;> split <;> omega

/-- Settles O26: DAA corrects the sum and the difference of packed decimals, units and tens. -/
theorem decimalAdjustGivesDecimalResult : Obligations.DecimalAdjustGivesDecimalResult := by
  unfold Obligations.DecimalAdjustGivesDecimalResult
  intro s m n hm hn ha
  refine ⟨⟨_, _, exec_aluI_of_result (op := .add) (x := .imm (Claims.packedDecimal n)) rfl, exec_daa _, ?_⟩,
    ⟨_, _, exec_aluI_of_result (op := .sub) (x := .imm (Claims.packedDecimal n)) rfl, exec_daa _, ?_⟩⟩
  · exact daa_add8_packedDecimal hm hn (congrArg (add8 · _ false) ha)
  · exact daa_sub8_packedDecimal hm hn (congrArg (sub8 · _ false) ha)

end Sys2Proof.Machine

namespace Sys2Proof.Machine

/-! ### 16-bit arithmetic in numbers (spec/42_alu16.md) -/

/-- `add16` in numbers (R262). -/
theorem add16_eq (x y : Word) (f : Flags) : add16 x y f = (BitVec.ofNat 16 (x.toNat + y.toNat),
    ⟨f.z, false, decide (x.toNat % 4096 + y.toNat % 4096 > 4095), decide (x.toNat + y.toNat > 65535)⟩) := by
  simp only [add16, toNat_and_mask x 0x0FFF 12 rfl, toNat_and_mask y 0x0FFF 12 rfl, Nat.reducePow]

theorem word_add_one (w : Word) : w + 1 = BitVec.ofNat 16 (w.toNat + 1) := BitVec.add_def w 1

/-- Subtracting one adds 65535 mod 2^16 (R264). -/
theorem word_sub_one (w : Word) : w - 1 = BitVec.ofNat 16 (w.toNat + 65535) := by
  rw [Nat.add_comm]
  exact BitVec.sub_def w 1

/-- Settles O18: ADD HL,rr is `add16` in numbers; INC rr and DEC rr put back the pair plus or minus one. -/
theorem wordArithmetic : Obligations.WordArithmetic := by
  unfold Obligations.WordArithmetic
  intro p s
  refine ⟨(coded_addHlI p).encode, (coded_incPairI p).encode, (coded_decPairI p).encode, ?addHl, ?incPair, ?decPair⟩
  case addHl => rw [exec_addHlI, addHl, add16_eq]; rfl
  case incPair => rw [exec_incPairI, incPair, word_add_one]; rfl
  case decPair => rw [exec_decPairI, decPair, word_sub_one]; rfl

end Sys2Proof.Machine

namespace Sys2Proof.Machine

/-! ### Rotates and shifts in numbers (spec/43_bit.md) -/

theorem bitOf_toNat (v : Byte) (i : Nat) : (bitOf v i).toNat = v.toNat / 2 ^ i % 2 := Nat.toNat_testBit v.toNat i

/-- Bytes that share no bit, the one a multiple of a power of two above the other, combine to their sum. -/
theorem or_toNat_of_multiple {x y : Byte} {i k : Nat} (hx : x.toNat = 2 ^ i * k) (hy : y.toNat < 2 ^ i) :
    (x ||| y).toNat = x.toNat + y.toNat := by
  rw [BitVec.toNat_or, hx, Nat.two_pow_add_eq_or_of_lt hy]

theorem shiftLeft_one_toNat (v : Byte) : (v <<< 1).toNat = 2 * v.toNat % 256 := by
  rw [BitVec.toNat_shiftLeft, Nat.shiftLeft_eq, Nat.mul_comm]

theorem shiftRight_one_toNat (v : Byte) : (v >>> 1).toNat = v.toNat / 2 := by
  rw [BitVec.toNat_ushiftRight, Nat.shiftRight_eq_div_pow]

theorem setWidth_ofBool_toNat (c : Bool) : ((BitVec.ofBool c).setWidth 8).toNat = c.toNat := by cases c <;> rfl

theorem setWidth_ofBool_shiftLeft_seven_toNat (c : Bool) : ((BitVec.ofBool c).setWidth 8 <<< 7).toNat = 128 * c.toNat := by
  cases c <;> rfl

/-- A shift to the left that takes `c` in at bit 0. -/
theorem shiftLeft_or_toNat (v : Byte) (c : Bool) :
    (v <<< 1 ||| (BitVec.ofBool c).setWidth 8).toNat = 2 * v.toNat % 256 + c.toNat := by
  have hv := shiftLeft_one_toNat v
  have hc := setWidth_ofBool_toNat c
  have := c.toNat_lt
  rw [or_toNat_of_multiple (i := 1) (k := v.toNat % 128) (by omega) (by omega), hv, hc]

/-- A shift to the right that takes `c` in at bit 7. -/
theorem shiftRight_or_toNat (v : Byte) (c : Bool) :
    (v >>> 1 ||| (BitVec.ofBool c).setWidth 8 <<< 7).toNat = v.toNat / 2 + 128 * c.toNat := by
  have hv := shiftRight_one_toNat v
  have hc := setWidth_ofBool_shiftLeft_seven_toNat c
  have := v.isLt
  rw [BitVec.or_comm, or_toNat_of_multiple (i := 7) hc (by omega), hv, hc, Nat.add_comm]

theorem and_bit_seven (v : Byte) : v &&& (0x80 : Byte) = (BitVec.ofBool (bitOf v 7)).setWidth 8 <<< 7 := by
  show v &&& BitVec.twoPow 8 7 = _
  rw [BitVec.and_twoPow, ← bitOf]
  cases bitOf v 7 <;> rfl

/-- SWAP exchanges the nibbles. -/
theorem swap_nibbles_toNat (v : Byte) :
    ((v &&& (0x0F : Byte)) <<< 4 ||| v >>> 4).toNat = 16 * (v.toNat % 16) + v.toNat / 16 := by
  have hlow : ((v &&& 0x0F) <<< 4).toNat = 16 * (v.toNat % 16) := by
    rw [BitVec.toNat_shiftLeft, low_nibble_toNat, Nat.shiftLeft_eq]
    omega
  have hhigh : (v >>> 4).toNat = v.toNat / 16 := by rw [BitVec.toNat_ushiftRight, Nat.shiftRight_eq_div_pow]
  have := v.isLt
  rw [or_toNat_of_multiple (i := 4) hlow (by omega), hlow, hhigh]

/-- `rotResult` in numbers (R270-R282): each bit that leaves the byte is a quotient or a remainder of it. -/
theorem rotResult_toNat (op : RotOp) (v : Byte) (c : Bool) :
    ((rotResult op v c).1.toNat, (rotResult op v c).2.toNat) = Claims.rotated op v.toNat c.toNat := by
  have h7 : (bitOf v 7).toNat = v.toNat / 128 := by
    have := v.isLt
    rw [bitOf_toNat]
    omega
  have h0 : (bitOf v 0).toNat = v.toNat % 2 := (bitOf_toNat v 0).trans (by rw [Nat.pow_zero, Nat.div_one])
  cases op with
  | rlc => exact Prod.ext ((shiftLeft_or_toNat v _).trans (by rw [h7]; rfl)) h7
  | rrc => exact Prod.ext ((shiftRight_or_toNat v _).trans (by rw [h0]; rfl)) h0
  | rl => exact Prod.ext (shiftLeft_or_toNat v c) h7
  | rr => exact Prod.ext (shiftRight_or_toNat v c) h0
  | sla => exact Prod.ext (shiftLeft_one_toNat v) h7
  | sra => exact Prod.ext (by rw [rotResult, and_bit_seven, shiftRight_or_toNat, h7]; rfl) h0
  | swap => exact Prod.ext (swap_nibbles_toNat v) rfl
  | srl => exact Prod.ext (shiftRight_one_toNat v) h0

/-- `rotExt` in numbers (R275-R282). -/
theorem rotExt_eq (op : RotOp) (v : Byte) (f : Flags) :
    rotExt op v f = let w := Claims.rotated op v.toNat f.c.toNat
      (BitVec.ofNat 8 w.1, ⟨decide (w.1 = 0), false, false, decide (w.2 = 1)⟩) := by
  simp only [← rotResult_toNat, BitVec.ofNat_toNat, BitVec.setWidth_eq, ← beq_zero_eq_decide_toNat,
    Bool.toNat_eq_one, Bool.decide_eq_true, rotExt]

/-- `rotAcc` in numbers (R270-R273). -/
theorem rotAcc_eq (op : RotOp) (a : Byte) (f : Flags) :
    rotAcc op a f = let w := Claims.rotated op a.toNat f.c.toNat
      (BitVec.ofNat 8 w.1, ⟨false, false, false, decide (w.2 = 1)⟩) := by
  simp only [← rotResult_toNat, BitVec.ofNat_toNat, BitVec.setWidth_eq, Bool.toNat_eq_one, Bool.decide_eq_true, rotAcc]

theorem rotA_eq (op : RotOp) (s : State) : rotA op s =
    let w := Claims.rotated op s.cpu.a.toNat s.cpu.f.c.toNat
    .next { s with cpu := { s.cpu with
      a := BitVec.ofNat 8 w.1, f := ⟨false, false, false, decide (w.2 = 1)⟩, cost := 4 } } := by
  rw [rotA, rotAcc_eq]
  rfl

/-- Settles O19: the accumulator forms are `rotAcc` and the extended forms `rotExt`, in numbers by `rotResult_toNat`. -/
theorem rotatesAndShifts : Obligations.RotatesAndShifts := by
  unfold Obligations.RotatesAndShifts
  refine ⟨?accumulator, fun op x => (coded_rotI op x).encode, fun op r s => ?register, fun op s => ?atHL⟩
  case accumulator =>
    intro s op i b h
    simp only [List.mem_cons, Prod.mk.injEq, List.not_mem_nil, or_false] at h
    obtain ⟨rfl, rfl, rfl⟩ | ⟨rfl, rfl, rfl⟩ | ⟨rfl, rfl, rfl⟩ | ⟨rfl, rfl, rfl⟩ := h <;> exact ⟨rfl, rotA_eq _ s⟩
  case register => rw [exec_rotI, rotLoc, rotExt_eq]; rfl
  case atHL => rw [exec_rotI, rotLoc, rotExt_eq]; rfl

/-! ### BIT, RES and SET -/

theorem Loc.bitCost_eq (x : Loc) : x.bitCost = if x = .atHL then 12 else 8 := by cases x <;> rfl

/-- Settles O20: BIT leaves its operand, RES and SET put theirs back where it was read. -/
theorem bitInstructions : Obligations.BitInstructions := by
  unfold Obligations.BitInstructions
  refine ⟨fun b x => ⟨(coded_bitI b x).encode, (coded_resI b x).encode, (coded_setI b x).encode⟩, fun b x s => ?test,
    fun b r s => ⟨exec_resI b (.reg r) s, exec_setI b (.reg r) s⟩, fun b s => ⟨exec_resI b .atHL s, exec_setI b .atHL s⟩⟩
  case test => rw [exec_bitI, ← Loc.bitCost_eq]; rfl

end Sys2Proof.Machine

namespace Sys2Proof.Machine

/-! ### Jumps (spec/44_control.md R300-R305)

A jump answers a next state that differs in the CPU only, so a condition selects the CPU (also that of RET cc, R309). -/

theorem next_cpu_ite (s : State) (p : Prop) [Decidable p] (c d : Cpu) :
    (.next { s with cpu := if p then c else d } : Result) =
      if p then .next { s with cpu := c } else .next { s with cpu := d } :=
  apply_ite (fun x : Cpu => (.next { s with cpu := x } : Result)) p c d

/-- Settles O21: the displacement in numbers is `add_sext8`, and a condition selects the CPU (`next_cpu_ite`). -/
theorem jumpInstructions : Obligations.JumpInstructions := by
  unfold Obligations.JumpInstructions
  intro s
  simp only [← add_sext8]
  exact ⟨fun _ => ⟨rfl, rfl, rfl, rfl⟩, fun _ => ⟨rfl, rfl⟩,
    fun cc a16 => ⟨(coded_jpIfI cc a16).encode, (exec_jpIfI a16 cc s).trans (next_cpu_ite s _ _ _).symm⟩,
    ⟨rfl, rfl⟩, fun _ => ⟨rfl, rfl⟩,
    fun cc e8 => ⟨(coded_jrIfI cc e8).encode, (exec_jrIfI e8 cc s).trans (next_cpu_ite s _ _ _).symm⟩⟩

/-! ### Calls and returns (spec/44_control.md R306-R311) -/

/-- A call pushes PC and then sets it to the target (R306), as a whole state. -/
theorem done_setPc_push16 (s : State) (target : Word) (n : Nat) :
    done n ((s.push16 s.cpu.pc).setPc target) = .next { s with
      cpu := { s.cpu with sp := s.cpu.sp - 2, pc := target, cost := n }
      bus := (s.bus.write s.config.echoRam (s.cpu.sp - 1) (hi s.cpu.pc)).write s.config.echoRam
        (s.cpu.sp - 2) (lo s.cpu.pc) } :=
  congrArg (fun t : State => (.next (t.setPc target) : Result)) (s.charge_push16 s.cpu.pc n)

/-- Settles O22: the calls and RST are `done_setPc_push16`; a return takes `State.top16` and leaves `State.dropTop`. -/
theorem callsAndReturns : Obligations.CallsAndReturns := by
  unfold Obligations.CallsAndReturns
  intro s
  refine ⟨fun a16 => ⟨rfl, done_setPc_push16 s a16 24⟩, fun cc a16 => ⟨(coded_callIfI cc a16).encode, ?callIf⟩,
    fun t => ⟨(coded_rstI t).encode, (exec_rstI t s).trans (done_setPc_push16 s _ 16)⟩, ⟨rfl, rfl⟩,
    fun cc => ⟨(coded_retIfI cc).encode, (exec_retIfI cc s).trans (next_cpu_ite s _ _ _).symm⟩, rfl, rfl⟩
  case callIf =>
    rw [exec_callIfI, callIf, done_setPc_push16, apply_ite Host.Outcome.next]
    rfl

end Sys2Proof.Machine

namespace Sys2Proof.Machine

/-! ### The prefix 0xCB (spec/45_system.md R332) -/

/-- The decoder and the dispatch read an extended opcode alike (R148): group by group, for a register operand and for
(HL). -/
theorem exec_extendedEntry (cbop : Byte) (s : State) : exec (extendedEntry cbop) s = extendedOp cbop s := by
  unfold extendedEntry extendedOp
  dsimp only
  cases regField (cbop.toNat % 8) with
  | some r =>
    match cbop.toNat / 64 with
    | 0 => exact exec_rotI _ (.reg r) s
    | 1 => exact exec_bitI _ (.reg r) s
    | 2 => exact exec_resI _ (.reg r) s
    | _ + 3 => exact exec_setI _ (.reg r) s
  | none =>
    match cbop.toNat / 64 with
    | 0 => exact exec_rotI _ .atHL s
    | 1 => exact exec_bitI _ .atHL s
    | 2 => exact exec_resI _ .atHL s
    | _ + 3 => exact exec_setI _ .atHL s

/-- The prefix fetches the extended opcode and runs its instruction, where that is implemented. -/
theorem exec_prefixCB (s : State) : exec .prefixCB s =
    if s.implements .extended (s.read s.cpu.pc) then
      exec (extendedEntry (s.read s.cpu.pc)) (s.setPc (s.cpu.pc + 1))
    else .next (s.raiseFatal (s.cpu.pc - 1)) := by
  rw [exec_extendedEntry]
  rfl

/-- Settles O24: the bytes by `extendedEntry_coded`, the run by `exec_prefixCB`. -/
theorem extendedPrefix : Obligations.ExtendedPrefix := by
  unfold Obligations.ExtendedPrefix
  refine ⟨fun cbop _ => ⟨rfl, (extendedEntry_coded cbop).encode⟩, fun s h => ?implemented, fun s h => ?fatal⟩
  case implemented => exact (exec_prefixCB s).trans (if_pos h)
  case fatal => exact (exec_prefixCB s).trans (if_neg (Bool.eq_false_iff.mp h))

/-! ### NOP, STOP, HALT, DI and EI (spec/45_system.md R330-R336) -/

/-- With no bit of IF in 4:0 no interrupt is pending, whatever IE holds. -/
theorem State.pending_eq_zero {s : State} (h : s.bus.ifr &&& 0x1F = 0) : s.pending = 0 := by
  rw [State.pending, BitVec.and_assoc, BitVec.and_comm s.bus.ie, ← BitVec.and_assoc, h]
  exact BitVec.zero_and

/-- A halted CPU with no bit of IF in 4:0 neither wakes nor dispatches (R333, R351). -/
theorem cpuStep_of_idle {s : State} (hf : s.cpu.fatal = false) (hh : s.cpu.halted = true)
    (hi : s.bus.ifr &&& 0x1F = 0) : cpuStep s = done 4 s := by
  have hw : s.wake = s := if_neg fun ⟨_, hne⟩ => hne hi
  unfold cpuStep
  dsimp only
  rw [hw, if_neg (by simp [hf]), if_neg (by simp [State.pending_eq_zero hi]), if_pos hh]

/-- Settles O23: STOP splits on `StopBehaviour`, an idle step is `cpuStep_of_idle`, and the rest is the dispatch of one
instruction each. -/
theorem systemInstructions : Obligations.SystemInstructions := by
  unfold Obligations.SystemInstructions
  refine fun s => ⟨⟨rfl, rfl⟩, fun x => ⟨rfl, fun h => ?nop2, fun h => ?fatal⟩, ⟨rfl, rfl⟩,
    fun hf hh hi => cpuStep_of_idle hf hh hi, ⟨rfl, rfl⟩, ⟨rfl, rfl⟩⟩
  case nop2 | fatal =>
    show stopOp s = _
    rw [stopOp, h]
    rfl

end Sys2Proof.Machine

namespace Sys2Proof.Machine

/-! ### The CPU step (spec/60_exceptions.md R350-R357) -/

theorem cpuStep_of_not_fatal {s : State} (hf : s.cpu.fatal = false) : cpuStep s =
    if s.wake.cpu.ime = true ∧ s.wake.pending ≠ 0 then done 20 (s.wake.dispatch s.wake.pending)
    else if s.wake.cpu.halted then done 4 s.wake else fetchExecute s.wake :=
  if_neg (by simp [hf])

theorem cpuStep_congr_wake {s t : State} (hs : s.cpu.fatal = false) (ht : t.cpu.fatal = false) (h : s.wake = t.wake) :
    cpuStep s = cpuStep t := by
  rw [cpuStep_of_not_fatal hs, cpuStep_of_not_fatal ht, h]

/-- With a bit of IF in 4:0 the CPU runs on, halted before or not (R351). -/
theorem State.wake_of_request {s : State} (h : s.bus.ifr &&& 0x1F ≠ 0) :
    s.wake = s.setCpu { s.cpu with halted := false } := by
  cases hh : s.cpu.halted with
  | true => exact if_pos ⟨hh, h⟩
  | false =>
    rw [← hh]
    exact if_neg (by simp [hh])

/-- Settles O28: both states of the first clause wake to one; the idle step and the fetch are `cpuStep_of_idle` and
`cpuStep_of_fetches`. -/
theorem haltWakeAndIdle : Obligations.HaltWakeAndIdle := by
  unfold Obligations.HaltWakeAndIdle
  refine fun s hf => ⟨fun _ h => ?wake, fun hh h => cpuStep_of_idle hf hh h,
    fun hh h => cpuStep_of_fetches ⟨hf, hh, h⟩⟩
  case wake =>
    exact cpuStep_congr_wake hf hf ((State.wake_of_request h).trans
      (State.wake_of_request (s := s.setCpu { s.cpu with halted := false }) h).symm)

theorem State.bitOf_pending (s : State) {i : Nat} (hi : i < 5) :
    bitOf s.pending i = (bitOf s.bus.ifr i && bitOf s.bus.ie i) := by
  have hmask : ∀ i < 5, (0x1F : Byte).getLsbD i = true := by decide
  rw [bitOf, State.pending, BitVec.getLsbD_and, BitVec.getLsbD_and, hmask i hi, Bool.and_true]
  rfl

/-- The interrupt taken is the lowest one pending (R355). -/
theorem lowestBit_eq {p : Byte} {n : Nat} (hn : n < 5) (hp : bitOf p n = true) (hlow : ∀ m < n, bitOf p m = false) :
    lowestBit p = n := by
  unfold lowestBit
  match n, hn with
  | 0, _ => simp [hp]
  | 1, _ => simp [hp, hlow 0]
  | 2, _ => simp [hp, hlow 0, hlow 1]
  | 3, _ => simp [hp, hlow 0, hlow 1, hlow 2]
  | 4, _ => simp [hlow 0, hlow 1, hlow 2, hlow 3]

/-- Settles O29: the CPU wakes, the lowest pending bit is `n`, and PC is pushed as by a call (`done_setPc_push16`). -/
theorem interruptDispatch : Obligations.InterruptDispatch := by
  unfold Obligations.InterruptDispatch
  intro s n hf hime hn hifr hie hlow
  have hbit : bitOf s.pending n = true := by rw [s.bitOf_pending hn, hifr, hie]; rfl
  have hlowest : lowestBit s.pending = n :=
    lowestBit_eq hn hbit fun m hm => (s.bitOf_pending (Nat.lt_trans hm hn)).trans (hlow m hm)
  have hpending : s.pending ≠ 0 := fun h => absurd (h ▸ hbit) (by simp [bitOf])
  have hwake := State.wake_of_request (mt State.pending_eq_zero hpending)
  rw [cpuStep_of_not_fatal hf, hwake, if_pos ⟨hime, hpending⟩]
  show done 20 (State.dispatch _ s.pending) = _
  rw [State.dispatch, hlowest]
  exact done_setPc_push16 _ (interruptVector n) 20

/-! ### The driver's step (spec/60_exceptions.md R425-R427) -/

theorem step_of_not_fatal {s : State} (hf : s.cpu.fatal = false) : step s = iteration s.openFrame :=
  if_neg (by simp [hf])

theorem iteration_of_next {s t : State} (h : cpuStep s = .next t) :
    iteration s = if t.cpu.fatal then .next t else .next (t.tick t.cpu.cost) := by
  rw [iteration, h]

theorem State.atFrameStart_iff (s : State) : s.atFrameStart = true ↔ s.frameCycles = 0 ∨ 70224 ≤ s.frameCycles := by
  rw [State.atFrameStart, Bool.or_eq_true, beq_iff_eq, decide_eq_true_eq, frameBudget]

theorem State.openFrame_of_start {s : State} (h : s.atFrameStart = true) :
    s.openFrame = State.beginFrame { s with inputs := s.inputs.tail } s.nextButtons := if_pos h

theorem State.openFrame_of_within {s : State} (h : ¬s.atFrameStart = true) : s.openFrame = s := if_neg h

/-- Settles O31: the step is `iteration` after `openFrame`, and the iteration ends by whether the CPU step was fatal. -/
theorem driverIteration : Obligations.DriverIteration := by
  unfold Obligations.DriverIteration
  refine fun s hf => ⟨?start, fun t ht hfatal => ?fatal, fun t ht hok => ?ticks⟩
  case start =>
    rw [← ite_congr (propext s.atFrameStart_iff) (fun _ => rfl) (fun _ => rfl)]
    rfl
  case fatal => rw [step_of_not_fatal hf, iteration_of_next ht, if_pos hfatal]
  case ticks =>
    rw [step_of_not_fatal hf, iteration_of_next ht, if_neg (by simp [hok]), State.tick, State.timerStep,
      (t.ppuStep_frame _).frameCycles]

/-- Settles O27: a CPU that fetches runs the instruction it decodes, whose length is that of its encoding. -/
theorem stepRunsDecodedInstruction : Obligations.StepRunsDecodedInstruction := by
  unfold Obligations.StepRunsDecodedInstruction
  intro s i rest u hf hu himpl hdec
  rw [decode_three] at hdec
  obtain ⟨rfl, -⟩ := Prod.mk.inj (Except.ok.inj hdec)
  have hlen : (encode u.fetched).length = lengthOf (u.read u.cpu.pc) := by
    rw [State.fetched, (encodeOfDecode _ _ _).2, List.length_take]
    exact Nat.min_eq_left (lengthOf_le_three _)
  have hcpu : cpuStep u = exec u.fetched u.pastInstr := (cpuStep_of_fetches hu).trans (if_pos himpl)
  rw [step_of_not_fatal hf, iteration, hcpu, State.pastInstr, ← hlen]
  rfl

/-! ### The outcomes of an instruction and of a CPU step -/

theorem Completes.fatal {s t : State} {r : Result} (h : Completes s r) (hr : r = .next t) :
    t.cpu.fatal = s.cpu.fatal := by
  obtain ⟨u, hu, hm, -⟩ := h
  obtain rfl := Host.Outcome.next.inj (hu.symm.trans hr)
  exact hm.fatal

/-- The three ways an instruction sets the fatal mark (R362). -/
theorem exec_fatal_cause {i : Instr} {s t : State} (hf : s.cpu.fatal = false) (h : exec i s = .next t)
    (ht : t.cpu.fatal = true) : (∃ op, i = .illegal op) ∨ ((∃ x, i = .stop x) ∧ s.config.stopBehaviour = .fatal) ∨
      (i = .prefixCB ∧ s.implements .extended (s.read s.cpu.pc) = false) := by
  have unchanged (he : t.cpu.fatal = s.cpu.fatal) : False := nomatch (he.trans hf).symm.trans ht
  cases hi : changesModes i with
  | false => exact (unchanged ((exec_completes i s hi).fatal h)).elim
  | true =>
    unfold changesModes at hi
    split at hi
    case h_1 | h_3 | h_4 | h_5 =>
      obtain rfl := Host.Outcome.next.inj h
      exact (unchanged rfl).elim
    case h_2 x =>
      refine .inr (.inl ⟨⟨x, rfl⟩, ?_⟩)
      change stopOp s = _ at h
      unfold stopOp at h
      split at h
      next =>
        obtain rfl := Host.Outcome.next.inj h
        exact (unchanged rfl).elim
      next hs => exact hs
    case h_6 op => exact .inl ⟨op, rfl⟩
    case h_7 =>
      refine .inr (.inr ⟨rfl, Bool.eq_false_iff.mpr fun himpl => ?_⟩)
      rw [exec_prefixCB, if_pos himpl, exec_extendedEntry] at h
      have he := (completes_extendedOp _ (s.setPc (s.cpu.pc + 1))).fatal h
      exact unchanged he
    case h_8 => exact nomatch hi

/-- Settles O39: `exec_ends` gives the two outcomes, `exec_fatal_cause` the causes of the fatal one. -/
theorem everyInstructionCompletes : Obligations.EveryInstructionCompletes := by
  unfold Obligations.EveryInstructionCompletes
  intro i s hf
  obtain ⟨t, ht, he⟩ := exec_ends i s
  refine ⟨t, ht, he.outcome.imp (fun ⟨hok, hcost⟩ => ⟨hok.trans hf, hcost⟩) fun ⟨hfatal, _⟩ => ?_⟩
  exact ⟨hfatal, exec_fatal_cause hf ht hfatal⟩

/-- A CPU step answers a state with the fatal mark, or one without it and with the cost of an instruction. -/
theorem cpuStep_answers {s : State} (hf : s.cpu.fatal = false) :
    ∃ t, cpuStep s = .next t ∧ (t.cpu.fatal = true ∨ t.cpu.fatal = false ∧ IsCost t.cpu.cost) := by
  obtain ⟨c, hw, hc⟩ := s.wake_eq
  have hwf : s.wake.cpu.fatal = false := by rw [hw]; exact hc.trans hf
  rw [cpuStep_of_not_fatal hf]
  split
  · exact ⟨_, rfl, .inr ⟨by simpa [State.dispatch] using hwf, (by decide : IsCost 20)⟩⟩
  split
  · exact ⟨_, rfl, .inr ⟨hwf, (by decide : IsCost 4)⟩⟩
  unfold fetchExecute
  split
  · obtain ⟨t, ht, he⟩ := exec_ends s.wake.fetched s.wake.pastInstr
    exact ⟨t, ht, he.outcome.symm.imp And.left fun ⟨hok, hcost⟩ => ⟨hok.trans hwf, hcost⟩⟩
  · exact ⟨_, rfl, .inl rfl⟩

/-! ### RunFrame (spec/60_exceptions.md R425) -/

/-- An iteration is fatal or counts from 4 to 24 cycles. -/
theorem iteration_answers {s : State} (hf : s.cpu.fatal = false) :
    ∃ t, iteration s = .next t ∧ (t.cpu.fatal = true ∨
      t.cpu.fatal = false ∧ s.frameCycles + 4 ≤ t.frameCycles ∧ t.frameCycles ≤ s.frameCycles + 24) := by
  obtain ⟨t, ht, hend⟩ := cpuStep_answers hf
  have hcount := (cpuStep_cases ht).2.frameCycles
  rw [iteration_of_next ht]
  rcases hend with hfatal | ⟨hok, hlow, hhigh, -⟩
  · exact ⟨t, if_pos hfatal, .inl hfatal⟩
  · obtain ⟨-, hcpu, -, -, -, htick⟩ := t.tick_frame t.cpu.cost
    refine ⟨t.tick t.cpu.cost, if_neg (by simp [hok]), .inr ⟨by rw [hcpu]; exact hok, ?_, ?_⟩⟩ <;> omega

theorem frameLoop_of_next {s t : State} (fuel : Nat) (hs : s.frameCycles < frameBudget) (h : iteration s = .next t) :
    frameLoop (fuel + 1) s = if t.cpu.fatal then .next t else frameLoop fuel t := by
  rw [frameLoop, if_pos hs, h]

theorem frameLoop_of_spent {s : State} (fuel : Nat) (hs : ¬s.frameCycles < frameBudget) : frameLoop fuel s = .next s := by
  cases fuel with
  | zero => rfl
  | succ fuel => exact if_neg hs

/-- The loop ends fatally or past the budget by less than a step, given fuel for every 4 cycles of it. -/
theorem frameLoop_answers (fuel : Nat) {s : State} (hf : s.cpu.fatal = false) (hc : s.frameCycles ≤ 70247)
    (hfuel : frameBudget ≤ s.frameCycles + 4 * fuel) :
    ∃ t, frameLoop fuel s = .next t ∧
      (t.cpu.fatal = true ∨ (70224 ≤ t.frameCycles ∧ t.frameCycles ≤ 70247)) := by
  by_cases hs : s.frameCycles < 70224
  case neg => exact ⟨s, frameLoop_of_spent fuel hs, .inr ⟨Nat.le_of_not_lt hs, hc⟩⟩
  case pos =>
    induction fuel generalizing s with
    | zero => exact absurd hs (Nat.not_lt.mpr hfuel)
    | succ fuel ih =>
      obtain ⟨t, ht, hend⟩ := iteration_answers hf
      rw [frameLoop_of_next fuel hs ht]
      rcases hend with hfatal | ⟨hok, hlow, hhigh⟩
      · exact ⟨t, if_pos hfatal, .inl hfatal⟩
      · rw [if_neg (by simp [hok])]
        by_cases hts : t.frameCycles < 70224
        · exact ih hok (by omega) (by omega) hts
        · exact ⟨t, frameLoop_of_spent fuel hts, .inr ⟨by omega, by omega⟩⟩

theorem run_succ_of_next (M : Host.Core) {s t : M.State} (k : Nat) (h : M.step s = .next t) :
    M.run (k + 1) s = M.run k t := by
  rw [Host.Core.run, h]

/-- An iteration from within a frame, and the rest of the frame from the state it answers, are steps of the machine from
any state that the start-of-frame work takes to it. -/
theorem exists_run_eq_frameLoop_succ {fuel : Nat} {s u : State} (hs : s.cpu.fatal = false) (hopen : s.openFrame = u)
    (hu : u.cpu.fatal = false) (hc : u.frameCycles < frameBudget)
    (hrest : ∀ t : State, t.cpu.fatal = false → 0 < t.frameCycles → ∃ k, core.run k t = frameLoop fuel t) :
    ∃ k, core.run k s = frameLoop (fuel + 1) u := by
  obtain ⟨t, ht, hend⟩ := iteration_answers hu
  have hstep : step s = .next t := by rw [step_of_not_fatal hs, hopen, ht]
  have hrun (k : Nat) : core.run (k + 1) s = core.run k t := run_succ_of_next core k hstep
  rw [frameLoop_of_next fuel hc ht]
  rcases hend with hfatal | ⟨hok, hlow, -⟩
  · exact ⟨1, (hrun 0).trans (if_pos hfatal).symm⟩
  · obtain ⟨k, hk⟩ := hrest t hok (by omega)
    exact ⟨k + 1, (hrun k).trans (hk.trans (if_neg (by simp [hok])).symm)⟩

/-- Past its first iteration the loop of RunFrame is steps of the machine: no start-of-frame work is due in it. -/
theorem exists_run_eq_frameLoop (fuel : Nat) {s : State} (hf : s.cpu.fatal = false) (hc : 0 < s.frameCycles) :
    ∃ k, core.run k s = frameLoop fuel s := by
  induction fuel generalizing s with
  | zero => exact ⟨0, rfl⟩
  | succ fuel ih =>
    by_cases hs : s.frameCycles < 70224
    · have hwithin : ¬s.atFrameStart = true := fun h => by rcases s.atFrameStart_iff.mp h with h | h <;> omega
      exact exists_run_eq_frameLoop_succ hf (State.openFrame_of_within hwithin) hf hs fun t ht h => ih ht h
    · exact ⟨0, (frameLoop_of_spent _ hs).symm⟩

/-- Settles O32: the first iteration follows the start-of-frame work and the others need none
(`exists_run_eq_frameLoop`); the loop's end is `frameLoop_answers`. -/
theorem runFrameIsIteratedStep : Obligations.RunFrameIsIteratedStep := by
  unfold Obligations.RunFrameIsIteratedStep
  refine fun s hf => ⟨fun hstart => ?_, fun b => ?_, fun _ _ => rfl⟩
  · exact exists_run_eq_frameLoop_succ hf (State.openFrame_of_start hstart) hf (by decide : 0 < frameBudget)
      fun t ht h => exists_run_eq_frameLoop _ ht h
  · exact frameLoop_answers _ (s := s.beginFrame b) hf (Nat.zero_le _)
      (by decide : frameBudget ≤ 0 + 4 * (frameBudget / 4))

end Sys2Proof.Machine

namespace Sys2Proof.Machine

open Sys2Proof.Claims

/-! ### STAT and its requests, as whole states (spec/60_exceptions.md R384-R392) -/

theorem statWith_getLsbD (v : BitVec 7) (c : Bool) (m : BitVec 2) {i : Nat} (hi : 3 ≤ i) :
    (statWith v c m).getLsbD i = v.getLsbD i := by
  rw [statWith, BitVec.getLsbD_append, if_neg (by omega), BitVec.getLsbD_append, if_neg (by omega),
    BitVec.getLsbD_extractLsb', show 3 + (i - 2 - 1) = i by omega]
  by_cases h : i < 7
  · simp [show i - 2 - 1 < 4 by omega]
  · simp [BitVec.getLsbD_of_ge v i (by omega)]

theorem statWith_coincidence (v : BitVec 7) (c : Bool) (m : BitVec 2) : (statWith v c m).getLsbD 2 = c := by
  rw [statWith, BitVec.getLsbD_append, if_neg (by omega), BitVec.getLsbD_append, if_pos (by omega)]
  exact BitVec.getLsbD_ofBool c 0

theorem statWith_statWith (v : BitVec 7) (c c' : Bool) (m m' : BitVec 2) :
    statWith (statWith v c m) c' m' = statWith v c' m' := by
  have h : (statWith v c m).extractLsb' 3 4 = v.extractLsb' 3 4 := by
    apply BitVec.eq_of_getLsbD_eq
    intro i hi
    rw [BitVec.getLsbD_extractLsb', BitVec.getLsbD_extractLsb', statWith_getLsbD v c m (by omega)]
  rw [statWith, h]
  rfl

theorem statIf_statIf (f : Byte) (p q : Bool) : statIf (statIf f p) q = statIf f (p || q) := by
  cases p <;> cases q <;> simp [statIf, BitVec.or_assoc]

/-- The mode field is all that a change of mode replaces. -/
theorem extractLsb'_append_mode (v : BitVec 7) (m : BitVec 2) : v.extractLsb' 2 5 ++ m = statWith v (v.getLsbD 2) m := by
  have h : v.extractLsb' 2 5 = v.extractLsb' 3 4 ++ BitVec.ofBool (v.getLsbD 2) := by
    apply BitVec.eq_of_getLsbD_eq
    intro i hi
    rw [BitVec.getLsbD_append, BitVec.getLsbD_extractLsb', BitVec.getLsbD_extractLsb', BitVec.getLsbD_ofBool]
    match i with
    | 0 => rfl
    | i + 1 => simp [hi, show i < 4 by omega, show 3 + i = 2 + (i + 1) by omega]
  rw [h]
  rfl

/-- The number of a mode in STAT (spec/10_state.md R38). -/
def Mode.code : Mode → BitVec 2
  | .hblank => 0
  | .vblank => 1
  | .oamSearch => 2
  | .transfer => 3

theorem State.enterMode_eq (s : State) (m : Mode) : s.enterMode m = { s with
    bus := { s.bus with stat := statWith s.bus.stat (s.bus.stat.getLsbD 2) m.code }, ppu := { s.ppu with mode := m } } := by
  rw [← extractLsb'_append_mode]
  cases m <;> rfl

theorem State.statRequest_eq (s : State) (i : Nat) :
    s.statRequest i = s.setBus { s.bus with ifr := statIf s.bus.ifr (s.bus.stat.getLsbD i) } := by
  unfold State.statRequest statIf
  split <;> rfl

theorem State.compareLY_eq (s : State) : s.compareLY = s.setBus { s.bus with
    stat := statWith s.bus.stat (decide (s.bus.ly = s.bus.lyc)) (s.bus.stat.extractLsb' 0 2)
    ifr := statIf s.bus.ifr (decide (s.bus.ly = s.bus.lyc) && s.bus.stat.getLsbD 6) } := by
  have heq : (s.bus.ly == s.bus.lyc) = decide (s.bus.ly = s.bus.lyc) := rfl
  unfold State.compareLY
  dsimp only
  rw [State.statRequest_eq, heq]
  cases decide (s.bus.ly = s.bus.lyc) with
  | false => rfl
  | true =>
    rw [Bool.true_and, ← statWith_getLsbD s.bus.stat true (s.bus.stat.extractLsb' 0 2) (by decide : 3 ≤ 6)]
    rfl

theorem State.enterOAM_eq (s : State) : s.enterOAM = { s with
    bus := { s.bus with
      stat := statWith s.bus.stat (s.bus.stat.getLsbD 2) 2, ifr := statIf s.bus.ifr (s.bus.stat.getLsbD 5) }
    ppu := { s.ppu with mode := .oamSearch, vblankTriggered := false } } := by
  rw [← statWith_getLsbD s.bus.stat (s.bus.stat.getLsbD 2) 2 (by decide : 3 ≤ 5)]
  unfold State.enterOAM
  dsimp only
  rw [State.statRequest_eq, State.enterMode_eq]
  rfl

/-- Entering HBlank, but for the line it renders. -/
theorem State.statRequest_enterMode_hblank (s : State) : (s.enterMode .hblank).statRequest 3 = { s with
    bus := { s.bus with
      stat := statWith s.bus.stat (s.bus.stat.getLsbD 2) 0, ifr := statIf s.bus.ifr (s.bus.stat.getLsbD 3) }
    ppu := { s.ppu with mode := .hblank } } := by
  rw [← statWith_getLsbD s.bus.stat (s.bus.stat.getLsbD 2) 0 (by decide : 3 ≤ 3), State.statRequest_eq,
    State.enterMode_eq]
  rfl

theorem Bus.spritePixel_setStatIf (b : Bus) (st : BitVec 7) (f : Byte) (ly x : Nat) (under : Pixel) (l : List Sprite) :
    Bus.spritePixel { b with stat := st, ifr := f } ly x under l = b.spritePixel ly x under l := by
  induction l with
  | nil => rfl
  | cons q l ih =>
    rw [Bus.spritePixel, ih]
    rfl

/-- Rendering does not depend on STAT and IF. -/
theorem Bus.renderRow_setStatIf (b : Bus) (st : BitVec 7) (f : Byte) (ly : Nat) (w : Byte) :
    Bus.renderRow { b with stat := st, ifr := f } ly w = b.renderRow ly w :=
  List.map_congr_left fun _ _ => b.spritePixel_setStatIf st f ly _ _ _

theorem State.enterHBlank_eq {s : State} (hly : s.bus.ly.toNat ≤ 143) : s.enterHBlank = { s with
    bus := { s.bus with
      stat := statWith s.bus.stat (s.bus.stat.getLsbD 2) 0, ifr := statIf s.bus.ifr (s.bus.stat.getLsbD 3) }
    ppu := { (s.renderLine s.bus.ly.toNat).ppu with mode := .hblank } } := by
  unfold State.enterHBlank
  dsimp only
  rw [State.statRequest_enterMode_hblank, if_pos hly, State.renderLine, Bus.renderRow_setStatIf]
  rfl

theorem State.enterHBlank_bus (s : State) : s.enterHBlank.bus = ((s.enterMode .hblank).statRequest 3).bus := by
  unfold State.enterHBlank
  dsimp only
  split <;> rfl

theorem State.enterHBlank_of_gt {s : State} (hly : ¬s.bus.ly.toNat ≤ 143) :
    s.enterHBlank = (s.enterMode .hblank).statRequest 3 := by
  unfold State.enterHBlank
  dsimp only
  rw [State.statRequest_ly, State.enterMode_ly, if_neg hly]

theorem State.enterVBlank_eq (s : State) : s.enterVBlank = { s with
    bus := { s.bus with
      stat := statWith s.bus.stat (s.bus.stat.getLsbD 2) 1
      ifr := statIf (if s.ppu.vblankTriggered = true then s.bus.ifr else s.bus.ifr ||| 0x01) (s.bus.stat.getLsbD 4) }
    ppu := { s.ppu with
      mode := .vblank, vblankTriggered := true, frameReady := s.ppu.frameReady || !s.ppu.vblankTriggered } } := by
  rw [← statWith_getLsbD s.bus.stat (s.bus.stat.getLsbD 2) 1 (by decide : 3 ≤ 4)]
  unfold State.enterVBlank
  dsimp only
  rw [State.statRequest_eq, State.enterMode_eq]
  obtain ⟨config, cpu, bus, ⟨mode, dots, windowLine, triggered, frame, ready⟩, divAcc, count, inputs⟩ := s
  cases triggered <;> cases ready <;> rfl

/-! ### The end of each phase -/

theorem State.endPhase_oamSearch {s : State} (hm : s.ppu.mode = .oamSearch) : s.endPhase = { s with
    bus := { s.bus with stat := statWith s.bus.stat (s.bus.stat.getLsbD 2) 3 }
    ppu := { s.ppu with mode := .transfer } } := by
  rw [State.endPhase, hm]
  exact s.enterMode_eq .transfer

theorem State.endPhase_transfer {s : State} (hm : s.ppu.mode = .transfer) (hly : s.bus.ly.toNat ≤ 143) :
    s.endPhase = { s with
    bus := { s.bus with
      stat := statWith s.bus.stat (s.bus.stat.getLsbD 2) 0, ifr := statIf s.bus.ifr (s.bus.stat.getLsbD 3) }
    ppu := { (s.renderLine s.bus.ly.toNat).ppu with mode := .hblank } } := by
  rw [State.endPhase, hm]
  exact State.enterHBlank_eq hly

/-- `LY <- v` and the comparison, as a whole state. -/
theorem State.compareLY_setLy (s : State) (v : Byte) : (s.setLy v).compareLY = s.setBus { s.bus with
    ly := v, stat := statWith s.bus.stat (decide (v = s.bus.lyc)) (s.bus.stat.extractLsb' 0 2)
    ifr := statIf s.bus.ifr (decide (v = s.bus.lyc) && s.bus.stat.getLsbD 6) } :=
  (s.setLy v).compareLY_eq

/-- The comparison and then OAM search: the two requests set one bit. -/
theorem State.enterOAM_compareLY_setLy (s : State) (v : Byte) : (s.setLy v).compareLY.enterOAM = { s with
    bus := { s.bus with
      ly := v, stat := statWith s.bus.stat (decide (v = s.bus.lyc)) 2
      ifr := statIf s.bus.ifr ((decide (v = s.bus.lyc) && s.bus.stat.getLsbD 6) || s.bus.stat.getLsbD 5) }
    ppu := { s.ppu with mode := .oamSearch, vblankTriggered := false } } := by
  rw [← statIf_statIf, State.compareLY_setLy, State.enterOAM_eq]
  simp only [State.setBus_bus, statWith_coincidence, statWith_statWith]
  rw [statWith_getLsbD _ _ _ (by decide : 3 ≤ 5)]
  rfl

theorem State.endPhase_hblank {s : State} (hm : s.ppu.mode = .hblank) (hly : s.bus.ly.toNat ≠ 143) :
    s.endPhase = (s.setLy (s.bus.ly + 1)).compareLY.enterOAM := by
  have hne : s.bus.ly + 1 ≠ 144 := by bv_omega
  rw [State.endPhase, hm]
  show s.endHBlank = _
  rw [State.endHBlank, State.compareLY_ly]
  exact if_neg hne

theorem State.endPhase_hblank_143 {s : State} (hm : s.ppu.mode = .hblank) (hly : s.bus.ly.toNat = 143) :
    s.endPhase = (s.setLy 144).compareLY.enterVBlank := by
  have he : s.bus.ly + 1 = 144 := by bv_omega
  rw [State.endPhase, hm]
  show s.endHBlank = _
  rw [State.endHBlank, State.compareLY_ly, he]
  exact if_pos rfl

theorem State.endPhase_vblank {s : State} (hm : s.ppu.mode = .vblank) (hly : ¬(s.bus.ly + 1).toNat > 153) :
    s.endPhase = (s.setLy (s.bus.ly + 1)).compareLY := by
  rw [State.endPhase, hm]
  exact if_neg hly

theorem State.endPhase_vblank_last {s : State} (hm : s.ppu.mode = .vblank) (hly : (s.bus.ly + 1).toNat > 153) :
    s.endPhase = (s.setLy 0).compareLY.enterOAM := by
  rw [State.endPhase, hm]
  exact if_pos hly

/-! ### The loop of a PPU step (spec/60_exceptions.md R383) -/

/-- Replace the PPU's accumulator. -/
def State.setDots (s : State) (n : Nat) : State := { s with ppu := { s.ppu with dots := n } }

@[simp] theorem State.setDots_bus (s : State) (n : Nat) : (s.setDots n).bus = s.bus := rfl
@[simp] theorem State.setDots_ppu (s : State) (n : Nat) : (s.setDots n).ppu = { s.ppu with dots := n } := rfl

/-- The end of a phase does not look at the accumulator. -/
theorem State.endPhase_setDots (s : State) (n : Nat) : (s.setDots n).endPhase = s.endPhase.setDots n := by
  cases hm : s.ppu.mode with
  | oamSearch =>
    rw [State.endPhase_oamSearch hm, State.endPhase_oamSearch (s := s.setDots n) hm]
    rfl
  | transfer =>
    rw [State.endPhase, State.endPhase, State.setDots_ppu, hm]
    show (s.setDots n).enterHBlank = s.enterHBlank.setDots n
    by_cases hly : s.bus.ly.toNat ≤ 143
    · rw [State.enterHBlank_eq hly, State.enterHBlank_eq (s := s.setDots n) hly]
      rfl
    · rw [State.enterHBlank_of_gt hly, State.enterHBlank_of_gt (s := s.setDots n) hly,
        State.statRequest_enterMode_hblank, State.statRequest_enterMode_hblank]
      rfl
  | hblank =>
    by_cases hly : s.bus.ly.toNat = 143
    · rw [State.endPhase_hblank_143 hm hly, State.endPhase_hblank_143 (s := s.setDots n) hm hly, State.compareLY_setLy,
        State.compareLY_setLy, State.enterVBlank_eq, State.enterVBlank_eq]
      rfl
    · rw [State.endPhase_hblank hm hly, State.endPhase_hblank (s := s.setDots n) hm hly,
        State.enterOAM_compareLY_setLy, State.enterOAM_compareLY_setLy]
      rfl
  | vblank =>
    by_cases hly : (s.bus.ly + 1).toNat > 153
    · rw [State.endPhase_vblank_last hm hly, State.endPhase_vblank_last (s := s.setDots n) hm hly,
        State.enterOAM_compareLY_setLy, State.enterOAM_compareLY_setLy]
      rfl
    · rw [State.endPhase_vblank hm hly, State.endPhase_vblank (s := s.setDots n) hm hly, State.compareLY_setLy,
        State.compareLY_setLy]
      rfl

theorem State.ppuLoop_of_lt {s : State} (fuel : Nat) (h : s.ppu.dots < s.ppu.mode.length) :
    State.ppuLoop fuel s = s := by
  cases fuel with
  | zero => rfl
  | succ fuel => exact if_neg (Nat.not_le.mpr h)

theorem State.ppuLoop_of_ge {s : State} (fuel : Nat) (h : s.ppu.mode.length ≤ s.ppu.dots) :
    State.ppuLoop (fuel + 1) s = State.ppuLoop fuel (s.endPhase.setDots (s.ppu.dots - s.ppu.mode.length)) := by
  rw [← State.endPhase_setDots]
  exact if_pos h

/-- Any two fuels that cover the accumulator give the same loop. -/
theorem State.ppuLoop_fuel {fuel fuel' : Nat} {s : State} (h : s.ppu.dots < 80 * fuel) (h' : s.ppu.dots < 80 * fuel') :
    State.ppuLoop fuel s = State.ppuLoop fuel' s := by
  induction fuel generalizing fuel' s with
  | zero => exact absurd h (Nat.not_lt_zero _)
  | succ fuel ih =>
    obtain ⟨fuel', rfl⟩ := Nat.exists_eq_succ_of_ne_zero (n := fuel') (by omega)
    rcases Nat.lt_or_ge s.ppu.dots s.ppu.mode.length with hd | hd
    · rw [State.ppuLoop_of_lt _ hd, State.ppuLoop_of_lt _ hd]
    · have := s.ppu.mode.length_ge
      rw [State.ppuLoop_of_ge _ hd, State.ppuLoop_of_ge _ hd]
      exact ih (show s.ppu.dots - s.ppu.mode.length < 80 * fuel by omega)
        (show s.ppu.dots - s.ppu.mode.length < 80 * fuel' by omega)

theorem State.ppuStep_of_on {s : State} (hon : bitOf s.bus.lcdc 7 = true) (c : Nat) :
    s.ppuStep c = State.ppuLoop ((s.ppu.dots + c) / 80 + 1) (s.setDots (s.ppu.dots + c)) := if_pos hon

/-- Below the phase's length a step only counts. -/
theorem State.ppuStep_of_lt {s : State} {c : Nat} (hon : bitOf s.bus.lcdc 7 = true)
    (h : s.ppu.dots + c < s.ppu.mode.length) : s.ppuStep c = s.setDots (s.ppu.dots + c) :=
  (s.ppuStep_of_on hon c).trans (State.ppuLoop_of_lt _ h)

theorem State.endPhase_lcdc (s : State) : s.endPhase.bus.lcdc = s.bus.lcdc := s.endPhase_frame.lcdc

/-- A step that reaches the phase's length is the end of the phase and a step of the excess. -/
theorem State.ppuStep_of_ge {s : State} {c : Nat} (hon : bitOf s.bus.lcdc 7 = true)
    (h : s.ppu.mode.length ≤ s.ppu.dots + c) :
    s.ppuStep c = (s.endPhase.setDots 0).ppuStep (s.ppu.dots + c - s.ppu.mode.length) := by
  have hlen := s.ppu.mode.length_ge
  have hloop : s.ppuStep c = State.ppuLoop ((s.ppu.dots + c) / 80)
      (s.endPhase.setDots (s.ppu.dots + c - s.ppu.mode.length)) := by
    rw [State.ppuStep_of_on hon, State.ppuLoop_of_ge _ h, State.endPhase_setDots]
    rfl
  have hexcess := State.ppuStep_of_on (s := s.endPhase.setDots 0) (s.endPhase_lcdc.symm ▸ hon)
    (s.ppu.dots + c - s.ppu.mode.length)
  rw [hloop, hexcess, State.setDots_ppu, Nat.zero_add]
  exact State.ppuLoop_fuel (s := s.endPhase.setDots _)
    (show s.ppu.dots + c - s.ppu.mode.length < 80 * ((s.ppu.dots + c) / 80) by omega) (State.ppuStep_fuel _)

/-- To reason about a PPU step: it only counts, or it ends a phase and goes on with the excess. -/
theorem State.ppuStep_induction {P : State → Nat → Prop}
    (count : ∀ s c, bitOf s.bus.lcdc 7 = true → s.ppu.dots + c < s.ppu.mode.length → P s c)
    (turn : ∀ s c, bitOf s.bus.lcdc 7 = true → s.ppu.mode.length ≤ s.ppu.dots + c →
      P (s.endPhase.setDots 0) (s.ppu.dots + c - s.ppu.mode.length) → P s c)
    (s : State) (c : Nat) (hon : bitOf s.bus.lcdc 7 = true) : P s c := by
  induction hn : s.ppu.dots + c using Nat.strongRecOn generalizing s c with
  | ind n ih =>
    subst hn
    rcases Nat.lt_or_ge (s.ppu.dots + c) s.ppu.mode.length with h | h
    · exact count s c hon h
    · have hlen := s.ppu.mode.length_ge
      have hless : (s.endPhase.setDots 0).ppu.dots + (s.ppu.dots + c - s.ppu.mode.length) < s.ppu.dots + c := by
        show 0 + _ < _
        omega
      exact turn s c hon h (ih _ hless _ _ (s.endPhase_lcdc.symm ▸ hon) rfl)

/-- Settles O50: where the first step only counts, both sides start from one accumulator; where it ends a phase, both go on
with the excess. -/
theorem ppuStepAdditive : Obligations.PpuStepAdditive := by
  unfold Obligations.PpuStepAdditive
  intro s c d hon
  refine State.ppuStep_induction (P := fun s c => (s.ppuStep c).ppuStep d = s.ppuStep (c + d)) ?count ?turn s c hon
  case count =>
    intro s c hon h
    have hd := State.ppuStep_of_on (s := s.setDots (s.ppu.dots + c)) hon d
    rw [State.ppuStep_of_lt hon h, hd, State.ppuStep_of_on hon, State.setDots_ppu, Nat.add_assoc]
    rfl
  case turn =>
    intro s c hon h ih
    have hcd : s.ppu.dots + c - s.ppu.mode.length + d = s.ppu.dots + (c + d) - s.ppu.mode.length := by omega
    rw [State.ppuStep_of_ge hon h, ih, hcd, State.ppuStep_of_ge hon (by omega)]

/-- A step that passes the phase's length by less than a phase ends that phase and no other. -/
theorem State.ppuStep_of_end {s : State} {c : Nat} (hon : bitOf s.bus.lcdc 7 = true)
    (h : s.ppu.mode.length ≤ s.ppu.dots + c) (h' : s.ppu.dots + c < s.ppu.mode.length + 80) :
    s.ppuStep c = s.endPhase.setDots (s.ppu.dots + c - s.ppu.mode.length) := by
  have hlen := s.endPhase.ppu.mode.length_ge
  have hlt : 0 + (s.ppu.dots + c - s.ppu.mode.length) < s.endPhase.ppu.mode.length := by omega
  rw [State.ppuStep_of_ge hon h]
  exact (State.ppuStep_of_lt (s := s.endPhase.setDots 0) (s.endPhase_lcdc.symm ▸ hon) hlt).trans
    (congrArg s.endPhase.setDots (Nat.zero_add _))

/-! ### The transitions (spec/60_exceptions.md R384-R390) -/

theorem statIf_ite_or_one (f : Byte) (v p : Bool) : (if v = true then statIf f p else statIf f p ||| 0x01) =
    statIf (if v = true then f else f ||| 0x01) p := by
  cases v with
  | true => rfl
  | false =>
    cases p with
    | false => rfl
    | true =>
      show f ||| 0x02 ||| 0x01 = f ||| 0x01 ||| 0x02
      rw [BitVec.or_assoc, BitVec.or_assoc]
      rfl

/-- The comparison and then VBlank: the two requests of bit 1 set one bit. -/
theorem State.enterVBlank_compareLY_setLy (s : State) (v : Byte) : (s.setLy v).compareLY.enterVBlank = { s with
    bus := { s.bus with
      ly := v, stat := statWith s.bus.stat (decide (v = s.bus.lyc)) 1
      ifr := statIf (if s.ppu.vblankTriggered = true then s.bus.ifr else s.bus.ifr ||| 0x01)
        ((decide (v = s.bus.lyc) && s.bus.stat.getLsbD 6) || s.bus.stat.getLsbD 4) }
    ppu := { s.ppu with
      mode := .vblank, vblankTriggered := true, frameReady := s.ppu.frameReady || !s.ppu.vblankTriggered } } := by
  rw [← statIf_statIf, ← statIf_ite_or_one, State.compareLY_setLy, State.enterVBlank_eq]
  simp only [State.setBus_bus, statWith_coincidence, statWith_statWith]
  rw [statWith_getLsbD _ _ _ (by decide : 3 ≤ 4)]
  rfl

/-- Settles O52: a step of at most 24 cycles ends one phase at most (`State.ppuStep_of_lt`, `State.ppuStep_of_end`), and
what the end of each phase does is written out above. -/
theorem ppuPhaseTransitions : Obligations.PpuPhaseTransitions := by
  unfold Obligations.PpuPhaseTransitions
  intro s c ⟨hon, hdots, hline⟩ hc
  have hend {m : Mode} (hm : s.ppu.mode = m) (h : m.length ≤ s.ppu.dots + c) :
      s.ppuStep c = s.endPhase.setDots (s.ppu.dots + c - m.length) := by
    subst hm
    exact State.ppuStep_of_end hon h (by omega)
  refine ⟨State.ppuStep_of_lt hon, fun hm h => ?oamSearch, fun hm h => ?transfer, fun hm h hly => ?hblank,
    fun hm h hly => ?enterVBlank, fun hm h hly => ?vblank, fun hm h hly => ?lastLine⟩
  case oamSearch =>
    rw [hend hm h, State.endPhase_oamSearch hm]
    rfl
  case transfer =>
    rw [hm] at hline
    rw [hend hm h, State.endPhase_transfer hm hline]
    rfl
  case hblank =>
    rw [hend hm h, State.endPhase_hblank hm hly, State.enterOAM_compareLY_setLy]
    rfl
  case enterVBlank =>
    have hly1 : BitVec.ofNat 8 (s.bus.ly.toNat + 1) = 144 := by rw [hly]; rfl
    rw [hend hm h, State.endPhase_hblank_143 hm hly, State.enterVBlank_compareLY_setLy, hly1]
    rfl
  case vblank =>
    rw [hend hm h, State.endPhase_vblank hm (by bv_omega), State.compareLY_setLy]
    rfl
  case lastLine =>
    rw [hend hm h, State.endPhase_vblank_last hm (by bv_omega), State.enterOAM_compareLY_setLy]
    rfl

/-- Settles O53: freezing is a change of mode; after it line 0 begins with its HBlank, which does not render. -/
theorem lcdOffFreezesThePpu : Obligations.LcdOffFreezesThePpu := by
  unfold Obligations.LcdOffFreezesThePpu
  refine ⟨fun s c hoff => ?frozen, fun s c hon hm hdots hly => ⟨fun hc => ?counts, ?line1⟩⟩
  case frozen =>
    have hstep : s.ppuStep c = s.freezePpu := if_neg (by simp [hoff])
    rw [hstep, State.freezePpu, State.enterMode_eq]
    rfl
  case counts =>
    have hcount : s.ppu.dots + c < s.ppu.mode.length := by rw [hm, hdots, Nat.zero_add]; exact hc
    rw [State.ppuStep_of_lt hon hcount, hdots, Nat.zero_add]
    rfl
  case line1 =>
    have hlen : s.ppu.dots + 204 = s.ppu.mode.length := by rw [hm, hdots]; rfl
    rw [State.ppuStep_of_end hon (Nat.le_of_eq hlen.symm) (by omega), hlen, Nat.sub_self,
      State.endPhase_hblank hm (by rw [hly]; decide), State.enterOAM_compareLY_setLy, hly]
    exact ⟨rfl, rfl, rfl, rfl⟩

/-! ### The periods of the PPU (spec/60_exceptions.md R381, R393) -/

theorem Mode.fitsLine_le {m : Mode} {ly : Nat} (h : m.fitsLine ly) : ly ≤ 153 := by
  cases m with
  | vblank => exact h.2
  | _ => exact Nat.le_trans h (by decide)

/-- Where in its line a phase begins. -/
def Mode.start : Mode → Nat
  | .oamSearch => 0
  | .transfer => 80
  | .hblank => 252
  | .vblank => 0

theorem lineDots_eq (p : Ppu) : lineDots p = p.mode.start + p.dots := by
  unfold lineDots
  cases p.mode <;> simp [Mode.start]

theorem lineDots_lt {p : Ppu} (h : p.dots < p.mode.length) : lineDots p < 456 := by
  have hlen : p.mode.start + p.mode.length ≤ 456 := by cases p.mode <;> decide
  rw [lineDots_eq]
  omega

/-- Where the PPU is in its frame of 70,224 dots, counted from the start of line 0. -/
def framePos (s : State) : Nat := 456 * s.bus.ly.toNat + lineDots s.ppu

/-- A phase begins where the phase before it ends. -/
theorem State.endPhase_start {s : State} (hline : s.ppu.mode.fitsLine s.bus.ly.toNat) :
    456 * s.endPhase.bus.ly.toNat + s.endPhase.ppu.mode.start =
      (456 * s.bus.ly.toNat + (s.ppu.mode.start + s.ppu.mode.length)) % 70224 := by
  cases hm : s.ppu.mode with
  | oamSearch =>
    have hly : s.bus.ly.toNat ≤ 143 := by rwa [hm] at hline
    simp only [State.endPhase_oamSearch hm, Mode.start, Mode.length]
    omega
  | transfer =>
    have hly : s.bus.ly.toNat ≤ 143 := by rwa [hm] at hline
    simp only [State.endPhase_transfer hm hly, Mode.start, Mode.length]
    omega
  | hblank =>
    have hly : s.bus.ly.toNat ≤ 143 := by rwa [hm] at hline
    by_cases h143 : s.bus.ly.toNat = 143
    · simp only [State.endPhase_hblank_143 hm h143, State.enterVBlank_compareLY_setLy, Mode.start, Mode.length, h143]
      rfl
    · simp only [State.endPhase_hblank hm h143, State.enterOAM_compareLY_setLy, Mode.start, Mode.length]
      bv_omega
  | vblank =>
    have hly : s.bus.ly.toNat ≤ 153 := Mode.fitsLine_le hline
    by_cases h153 : (s.bus.ly + 1).toNat > 153
    · simp only [State.endPhase_vblank_last hm h153, State.enterOAM_compareLY_setLy, Mode.start, Mode.length]
      bv_omega
    · simp only [State.endPhase_vblank hm h153, State.compareLY_setLy, State.setBus_ppu, State.setBus_bus, hm, Mode.start,
        Mode.length]
      bv_omega

/-- A PPU step moves the PPU on in its frame by the cycles it is given, and leaves a state that fits its phase. -/
theorem State.ppuStep_framePos {s : State} (h : PpuRuns s) (c : Nat) :
    PpuRuns (s.ppuStep c) ∧ framePos (s.ppuStep c) = (framePos s + c) % 70224 := by
  obtain ⟨hon, hdots, hline⟩ := h
  refine State.ppuStep_induction
    (P := fun s c => s.ppu.dots < s.ppu.mode.length → s.ppu.mode.fitsLine s.bus.ly.toNat →
      PpuRuns (s.ppuStep c) ∧ framePos (s.ppuStep c) = (framePos s + c) % 70224) ?count ?turn s c hon hdots hline
  case count =>
    intro s c hon hc hdots hline
    have hlt : lineDots (s.setDots (s.ppu.dots + c)).ppu < 456 := lineDots_lt hc
    have hly := Mode.fitsLine_le hline
    rw [State.ppuStep_of_lt hon hc]
    refine ⟨⟨hon, hc, hline⟩, ?_⟩
    rw [framePos, framePos, State.setDots_bus]
    rw [lineDots_eq] at hlt ⊢
    rw [lineDots_eq]
    simp only [State.setDots_ppu] at hlt ⊢
    omega
  case turn =>
    intro s c hon hc ih hdots hline
    obtain ⟨hruns, hpos⟩ := ih (Nat.lt_of_lt_of_le (by decide : 0 < 80) s.endPhase.ppu.mode.length_ge)
      (s.endPhase_fitsLine hline)
    rw [State.ppuStep_of_ge hon hc]
    refine ⟨hruns, ?_⟩
    have hstart := State.endPhase_start hline
    rw [hpos, framePos, framePos, lineDots_eq, lineDots_eq]
    simp only [State.setDots_ppu, State.setDots_bus]
    omega

/-- The phase at dot `n` of scanline `ly` (R381). -/
def phaseAt (ly n : Nat) : Mode :=
  if 144 ≤ ly then .vblank else if n < 80 then .oamSearch else if n < 252 then .transfer else .hblank

theorem phaseAt_of_fits {m : Mode} {d ly : Nat} (hd : d < m.length) (hm : m.fitsLine ly) :
    phaseAt ly (m.start + d) = m := by
  have visible (h : ly ≤ 143) : ¬144 ≤ ly := by omega
  unfold phaseAt
  cases m with
  | vblank => exact if_pos hm.1
  | oamSearch =>
    have hd : d < 80 := hd
    rw [if_neg (visible hm)]
    exact if_pos (show 0 + d < 80 by omega)
  | transfer =>
    have hd : d < 172 := hd
    rw [if_neg (visible hm)]
    exact (if_neg (show ¬80 + d < 80 by omega)).trans (if_pos (show 80 + d < 252 by omega))
  | hblank =>
    rw [if_neg (visible hm)]
    exact (if_neg (show ¬252 + d < 80 by omega)).trans (if_neg (show ¬252 + d < 252 by omega))

/-- The place in the line and LY determine the phase and its accumulator. -/
theorem phase_eq_of_start_add_eq {m m' : Mode} {d d' ly : Nat} (hd : d < m.length) (hd' : d' < m'.length)
    (hm : m.fitsLine ly) (hm' : m'.fitsLine ly) (h : m.start + d = m'.start + d') : m = m' ∧ d = d' := by
  obtain rfl : m = m' := by rw [← phaseAt_of_fits hd hm, h, phaseAt_of_fits hd' hm']
  exact ⟨rfl, Nat.add_left_cancel h⟩

/-- Settles O51: `State.ppuStep_framePos` with the cycles of a line and of a frame. -/
theorem ppuLineAndFramePeriod : Obligations.PpuLineAndFramePeriod := by
  unfold Obligations.PpuLineAndFramePeriod
  intro s h
  obtain ⟨hline, hlinePos⟩ := State.ppuStep_framePos h 456
  obtain ⟨hframe, hframePos⟩ := State.ppuStep_framePos h 70224
  have bounds {t : State} (ht : PpuRuns t) : lineDots t.ppu < 456 ∧ t.bus.ly.toNat ≤ 153 :=
    ⟨lineDots_lt ht.2.1, Mode.fitsLine_le ht.2.2⟩
  have := bounds h
  have := bounds hline
  have := bounds hframe
  unfold framePos at hlinePos hframePos
  refine ⟨⟨hline, by omega, by omega⟩, ?_⟩
  have hly : (s.ppuStep 70224).bus.ly = s.bus.ly := BitVec.eq_of_toNat_eq (by omega)
  have hdots : lineDots (s.ppuStep 70224).ppu = lineDots s.ppu := by omega
  rw [lineDots_eq, lineDots_eq] at hdots
  obtain ⟨hm, hd⟩ := phase_eq_of_start_add_eq hframe.2.1 h.2.1 (hly ▸ hframe.2.2) h.2.2 hdots
  exact ⟨hm, hd, hly⟩

/-! ### The timer (spec/60_exceptions.md R410) -/

/-- Settles O54: the whole 256s go to DIV and the rest to the accumulator, however the cycles are cut. -/
theorem dividerTimer : Obligations.DividerTimer := by
  unfold Obligations.DividerTimer
  refine ⟨fun s c _ => ⟨(s.divAcc + c) / 256, (Nat.div_add_mod _ _).symm, s.timerStep_divAcc_lt c, ?div, rfl⟩,
    fun s c d => ?additive⟩
  case div => simp [State.timerStep, BitVec.toNat_add]
  case additive =>
    have hacc : ((s.divAcc + c) % 256 + d) % 256 = (s.divAcc + (c + d)) % 256 := by omega
    have hdiv : (s.divAcc + c) / 256 + ((s.divAcc + c) % 256 + d) / 256 = (s.divAcc + (c + d)) / 256 := by omega
    simp only [State.timerStep, hacc, BitVec.add_assoc, ← BitVec.ofNat_add, hdiv]

/-! ### The requests of the devices (spec/60_exceptions.md R388, R391, R420) -/

/-- `g` is `f` with bits 0 and 1 requested or not: no bit is cleared and no other bit is set. -/
def IfRequested (f g : Byte) : Prop :=
  ∀ i, (bitOf f i = true → bitOf g i = true) ∧ (2 ≤ i → bitOf g i = bitOf f i)

theorem IfRequested.refl (f : Byte) : IfRequested f f := fun _ => ⟨id, fun _ => rfl⟩

theorem IfRequested.trans {f g h : Byte} (hfg : IfRequested f g) (hgh : IfRequested g h) : IfRequested f h :=
  fun i => ⟨fun hf => (hgh i).1 ((hfg i).1 hf), fun hi => ((hgh i).2 hi).trans ((hfg i).2 hi)⟩

theorem IfRequested.or {m : Byte} (f : Byte) (hm : m.toNat < 4) : IfRequested f (f ||| m) := by
  intro i
  rw [bitOf, bitOf, BitVec.getLsbD_or]
  refine ⟨fun hf => by rw [hf]; rfl, fun hi => ?_⟩
  have hmi : m.getLsbD i = false :=
    Nat.testBit_lt_two_pow (Nat.lt_of_lt_of_le hm (Nat.pow_le_pow_right (by decide : 0 < 2) hi))
  rw [hmi, Bool.or_false]

theorem IfRequested.statIf (f : Byte) (p : Bool) : IfRequested f (statIf f p) := by
  cases p with
  | false => exact .refl f
  | true => exact .or f (by decide)

theorem State.endPhase_ifRequested (s : State) : IfRequested s.bus.ifr s.endPhase.bus.ifr := by
  cases hm : s.ppu.mode with
  | oamSearch =>
    rw [State.endPhase_oamSearch hm]
    exact .refl _
  | transfer =>
    have hbus : s.endPhase.bus = ((s.enterMode .hblank).statRequest 3).bus := by
      rw [State.endPhase, hm]
      exact s.enterHBlank_bus
    rw [hbus, State.statRequest_enterMode_hblank]
    exact .statIf _ _
  | hblank =>
    by_cases hly : s.bus.ly.toNat = 143
    · rw [State.endPhase_hblank_143 hm hly, State.enterVBlank_compareLY_setLy]
      refine IfRequested.trans ?_ (.statIf _ _)
      split
      · exact .refl _
      · exact .or _ (by decide)
    · rw [State.endPhase_hblank hm hly, State.enterOAM_compareLY_setLy]
      exact .statIf _ _
  | vblank =>
    by_cases hly : (s.bus.ly + 1).toNat > 153
    · rw [State.endPhase_vblank_last hm hly, State.enterOAM_compareLY_setLy]
      exact .statIf _ _
    · rw [State.endPhase_vblank hm hly, State.compareLY_setLy]
      exact .statIf _ _

theorem State.ppuStep_ifRequested (s : State) (c : Nat) : IfRequested s.bus.ifr (s.ppuStep c).bus.ifr := by
  unfold State.ppuStep
  split
  · exact State.ppuLoop_of_endPhase (P := fun t => IfRequested s.bus.ifr t.bus.ifr)
      (fun t _ h => h.trans (State.endPhase_ifRequested (t.setDots (t.ppu.dots - t.ppu.mode.length))))
      _ _ (.refl _)
  · exact .refl _

/-- Settles O41: of the devices only the PPU writes IF, and it requests bits 0 and 1. -/
theorem hardwareInterruptRequests : Obligations.HardwareInterruptRequests := by
  unfold Obligations.HardwareInterruptRequests
  intro s c i
  obtain ⟨hkept, hothers⟩ := s.ppuStep_ifRequested c i
  have hie : (s.ppuStep c).bus.ie = s.bus.ie := by rw [(s.ppuStep_frame c).bus]
  obtain ⟨-, -, -, hopen, -⟩ := s.openFrame_frame
  exact ⟨hkept, hothers, hie, by rw [hopen]⟩

end Sys2Proof.Machine

namespace Sys2Proof.Machine

open Sys2Proof.Claims

/-! ### The pixels of background and window (spec/60_exceptions.md R394-R397) -/

theorem ofBool_bitOf_toNat (v : Byte) (i : Nat) : (BitVec.ofBool (bitOf v i)).toNat = bitNat v i := by
  rw [BitVec.toNat_ofBool, bitOf_toNat, bitNat]

theorem Bus.tileIndex_toNat (b : Bus) (t row col : Nat) : (b.tileIndex t row col).toNat = colourAt b t row col := by
  have hlow : bitNat (b.vram (t + 2 * row)) (7 - col) < 2 ^ 1 := Nat.mod_lt _ (by decide)
  rw [Bus.tileIndex, BitVec.toNat_append, ofBool_bitOf_toNat, ofBool_bitOf_toNat,
    ← Nat.shiftLeft_add_eq_or_of_lt hlow, Nat.shiftLeft_eq, Nat.mul_comm, Nat.add_comm]
  rfl

theorem Bus.bgTileBase_eq (b : Bus) (t : Byte) : b.bgTileBase t = tileOffset b t := by
  unfold Bus.bgTileBase tileOffset
  split
  next => rfl
  next =>
    rw [BitVec.toInt_eq_toNat_cond]
    have := t.isLt
    split <;> split <;> omega

theorem paletteShade_toNat (p : Byte) (i : BitVec 2) : (paletteShade p i).toNat = p.toNat / 4 ^ i.toNat % 4 := by
  rw [paletteShade, BitVec.toNat_setWidth, BitVec.toNat_ushiftRight, Nat.shiftRight_eq_div_pow, Nat.pow_mul]

/-- A pixel of a tile map: its index is the colour of the tile, its shade BGP's entry. -/
theorem Bus.mapPixel_toNat (b : Bus) (map y x : Nat) : (b.mapPixel map y x).bgIdx.toNat = mapColour b map y x ∧
    (b.mapPixel map y x).shade.toNat = b.bgp.toNat / 4 ^ mapColour b map y x % 4 := by
  have h : (b.mapPixel map y x).bgIdx.toNat = mapColour b map y x := by
    rw [Bus.mapPixel, Bus.tileIndex_toNat, Bus.bgTileBase_eq]
    rfl
  exact ⟨h, h ▸ paletteShade_toNat _ _⟩

theorem Bus.windowRow_toNat (b : Bus) (ly : Nat) (w : Byte) :
    (b.windowRow ly w).toNat = if ly = b.wy.toNat then 0 else w.toNat := by
  rw [Bus.windowRow, apply_ite BitVec.toNat]
  rfl

/-- Settles O56: the pixels are those of the tile maps, and the row is `Bus.rowPixel` at each column. -/
theorem backgroundAndWindowPixels : Obligations.BackgroundAndWindowPixels := by
  unfold Obligations.BackgroundAndWindowPixels
  intro b ly x map bg
  refine ⟨fun h => ?bgOff, fun h => ?bgOn, ?runs, fun row under => ⟨fun h => ?left, fun h => ?window⟩, ?render⟩
  case bgOff => rw [Bus.bgPixel, h]; rfl
  case bgOn =>
    rw [Bus.bgPixel, h]
    exact b.mapPixel_toNat _ _ _
  case runs => rw [Bus.windowRuns, Bool.and_eq_true, decide_eq_true_eq]
  case left => exact if_neg (Nat.not_le.mpr h)
  case window =>
    rw [Bus.windowPixel, if_pos h]
    exact b.mapPixel_toNat _ _ _
  case render =>
    rintro s rfl
    refine ⟨rfl, fun j hj => List.getElem?_set_ne (Ne.symm hj), fun h => ?still, fun h => ?counts,
      fun hly hlen => ?shades⟩
    case still => rw [State.renderLine_ppu, h]; rfl
    case counts =>
      rw [State.renderLine_ppu, h, ← Bus.windowRow_toNat]
      exact BitVec.toNat_add _ _
    case shades =>
      refine ⟨s.bus.renderRow ly s.ppu.windowLine, List.getElem?_set_self (hlen ▸ hly),
        s.bus.renderRow_length _ _, ?_⟩
      intro col hcol
      rw [Bus.renderRow, List.getElem?_map, List.getElem?_range hcol]
      rfl

/-! ### The sprites of a line (spec/60_exceptions.md R398, R399) -/

theorem Bus.selectSprites_on {b : Bus} (h : bitOf b.lcdc 1 = true) (ly : Nat) :
    b.selectSprites ly = (((List.range 40).filter (meets b ly)).take 10).map b.sprite := by
  rw [Bus.selectSprites, if_pos h, List.filter_map, List.map_take]
  rfl

theorem mem_insertSprite {p q : Sprite} {l : List Sprite} : p ∈ insertSprite q l ↔ p = q ∨ p ∈ l := by
  induction l with
  | nil => exact List.mem_cons
  | cons t l ih =>
    rw [insertSprite]
    split
    · exact List.mem_cons
    · rw [List.mem_cons, ih, List.mem_cons, or_left_comm]

/-- The order of drawing: X ascending. -/
abbrev SortedByX (l : List Sprite) : Prop := l.Pairwise fun p q => p.x.toNat ≤ q.x.toNat

theorem insertSprite_sorted {q : Sprite} {l : List Sprite} (h : SortedByX l) : SortedByX (insertSprite q l) := by
  induction l with
  | nil => exact List.pairwise_singleton _ _
  | cons t l ih =>
    obtain ⟨ht, hl⟩ := List.pairwise_cons.mp h
    rw [insertSprite]
    split
    next hle =>
      refine h.cons fun p hp => ?_
      rcases List.mem_cons.mp hp with rfl | hp
      · exact hle
      · exact Nat.le_trans hle (ht p hp)
    next hgt =>
      refine (ih hl).cons fun p hp => ?_
      rcases mem_insertSprite.mp hp with rfl | hp
      · omega
      · exact ht p hp

theorem orderSprites_sorted (l : List Sprite) : SortedByX (orderSprites l) := by
  induction l with
  | nil => exact .nil
  | cons q l ih => exact insertSprite_sorted ih

/-- A sprite is never moved past one with its own X. -/
theorem filter_insertSprite (n : Nat) (q : Sprite) (l : List Sprite) :
    (insertSprite q l).filter (fun p => decide (p.x.toNat = n)) = (q :: l).filter (fun p => decide (p.x.toNat = n)) := by
  induction l with
  | nil => rfl
  | cons t l ih =>
    rw [insertSprite]
    split
    next => rfl
    next hgt =>
      rw [List.filter_cons, ih, List.filter_cons, List.filter_cons (x := q), List.filter_cons (x := t)]
      by_cases hq : q.x.toNat = n
      · have ht : t.x.toNat ≠ n := by omega
        simp [hq, ht]
      · simp [hq]

theorem filter_orderSprites (n : Nat) (l : List Sprite) :
    (orderSprites l).filter (fun p => decide (p.x.toNat = n)) = l.filter (fun p => decide (p.x.toNat = n)) := by
  induction l with
  | nil => rfl
  | cons q l ih =>
    rw [orderSprites, filter_insertSprite, List.filter_cons, List.filter_cons, ih]

/-! ### The sprite pixel of a column (spec/60_exceptions.md R399) -/

/-- Sprites that show nothing at a column are passed over. -/
theorem Bus.spritePixel_append {b : Bus} {ly x : Nat} {l : List Sprite} (h : ∀ q ∈ l, ¬Opaque b ly x q) (under : Pixel)
    (l' : List Sprite) : b.spritePixel ly x under (l ++ l') = b.spritePixel ly x under l' := by
  induction l with
  | nil => rfl
  | cons q l ih =>
    rw [List.cons_append, Bus.spritePixel]
    exact (if_neg (h q List.mem_cons_self)).trans (ih fun p hp => h p (List.mem_cons_of_mem q hp))

theorem Bus.spritePixel_of_opaque {b : Bus} {ly x : Nat} {q : Sprite} (h : Opaque b ly x q) (under : Pixel)
    (l : List Sprite) : b.spritePixel ly x under (q :: l) =
      if bitOf q.attr 7 = true ∧ under.bgIdx ≠ 0 then under.shade
      else paletteShade (if bitOf q.attr 4 then b.obp1 else b.obp0) (b.spriteIndex ly x q) := if_pos h

/-- The tile number with bit 0 cleared (R399). -/
theorem and_0xFE_toNat : ∀ v : Byte, (v &&& 0xFE).toNat = v.toNat / 2 * 2 := by decide

theorem Bus.spriteIndex_toNat (b : Bus) (ly x : Nat) (q : Sprite) : (b.spriteIndex ly x q).toNat = colourAt b
    (16 * (if bitOf b.lcdc 2 = true then q.tile.toNat / 2 * 2 else q.tile.toNat))
    (if bitOf q.attr 6 = true then (if bitOf b.lcdc 2 = true then 16 else 8) - 1 - (ly + 16 - q.y.toNat)
      else ly + 16 - q.y.toNat)
    (if bitOf q.attr 5 = true then 7 - (x + 8 - q.x.toNat) else x + 8 - q.x.toNat) := by
  rw [Bus.spriteIndex, Bus.tileIndex_toNat, apply_ite BitVec.toNat, and_0xFE_toNat]
  rfl

/-- Settles O57: the selection by `Bus.selectSprites_on`, the order as a stable insertion sort, the pixel by the first
opaque sprite, and the flips by `Bus.spriteIndex_toNat`. -/
theorem spriteSelectionAndDrawing : Obligations.SpriteSelectionAndDrawing := by
  unfold Obligations.SpriteSelectionAndDrawing
  refine ⟨fun b ly => ⟨fun h => if_neg (by simp [h]), fun h => Bus.selectSprites_on h ly⟩,
    fun l => ⟨orderSprites_sorted l, fun n => filter_orderSprites n l⟩,
    fun b ly x under l hl => ⟨?none, fun q l' hq => ?first⟩, fun b ly x q _ _ => b.spriteIndex_toNat ly x q⟩
  case none => simpa [Bus.spritePixel] using Bus.spritePixel_append hl under []
  case first =>
    rw [Bus.spritePixel_append hl, Bus.spritePixel_of_opaque hq, apply_ite BitVec.toNat, paletteShade_toNat]

end Sys2Proof.Machine

namespace Sys2Proof.Machine

/-! ### The block that power-on builds

What the two resets have in common, and the one lemma that says what `powerOn` can answer
(spec/70_reset_and_hazards.md R450, R451). -/

/-- A supply's block over given CPU and bus: the PPU and the counters start alike in both resets. -/
def State.built (h : Supply) (cpu : Cpu) (bus : Bus) : State :=
  { config := h.config, cpu := cpu, bus := bus, ppu := Ppu.initial, divAcc := 0, frameCycles := 0, inputs := h.inputs }

/-- A supply's cartridge image and save file, loaded into storage. -/
def Memory.loaded (m : Memory) (h : Supply) (cart : Cart) : Memory :=
  (m.loadRom (h.cartridge.getD Image.blank)).loadSave cart h.saveRam

/-- Power-on answers the post-boot reset where no boot ROM is supplied, and the boot-ROM reset with the supplied bytes
otherwise. -/
theorem powerOn_eq_ok {h : Supply} {s : State} (hp : powerOn h = .ok s) :
    ∃ cart, Cart.load (h.cartridge.getD Image.blank) = some cart ∧
      ((h.bootRom.bytes = none ∧
          s = .built h Cpu.postBoot (.postBoot ((Memory.postBoot h.config.initialRam).loaded h cart) cart)) ∨
        ∃ boot, h.bootRom.bytes = some boot ∧
          s = .built h Cpu.bootRom
            (.bootRom (((Memory.bootRom h.config.initialRam).loaded h cart).writeRun bootKey 0 boot) cart)) := by
  unfold powerOn at hp
  dsimp only at hp
  split at hp
  · exact nomatch hp
  next cart hc =>
    refine ⟨cart, hc, ?_⟩
    split at hp
    next hb => exact .inl ⟨hb, (Except.ok.inj hp).symm⟩
    next boot hb => exact .inr ⟨boot, hb, (Except.ok.inj hp).symm⟩

/-- The bank registers right after a load (spec/10_state.md R49). -/
theorem Cart.load_registers {img : Image} {c : Cart} (h : Cart.load img = some c) :
    c.romBank = 1 ∧ c.ramBank = 0 ∧ c.ramEnabled = false := by
  obtain ⟨_, -, rfl⟩ := Option.map_eq_some_iff.mp h
  exact ⟨rfl, rfl, rfl⟩

theorem Cart.load_legal {img : Image} {c : Cart} (h : Cart.load img = some c) : c.Legal := by
  obtain ⟨hcode, hbanks, -, -, hram⟩ := Cart.load_eq_some h
  obtain ⟨hromBank, hramBank, henabled⟩ := Cart.load_registers h
  refine ⟨⟨img.byte 0x0148, by rw [romBanksOf, if_pos hcode, hbanks]⟩, ⟨_, hram.symm⟩, ?_⟩
  rw [hromBank, hramBank, henabled]
  cases c.family <;> decide

theorem Memory.wf_loaded {m : Memory} (hm : m.wf) (h : Supply) (cart : Cart) : (m.loaded h cart).wf :=
  Memory.wf_loadSave (Memory.wf_loadRom hm _) _ _

/-- Of the invariant, only storage, the bank controller and LY depend on the bus that the block is built with. -/
theorem State.built_inv (h : Supply) (cpu : Cpu) {bus : Bus} (hmem : bus.mem.wf) (hcart : bus.cart.Legal)
    (hly : bus.ly = 0) : (State.built h cpu bus).Inv where
  memory := hmem
  banks := hcart
  dots := by show 0 < 80; decide
  line := by show bus.ly.toNat ≤ 143; rw [hly]; decide
  lcdOff := fun _ => hly
  divider := by show 0 < 256; decide
  frame := ⟨List.length_replicate, fun _ hr => List.eq_of_mem_replicate hr ▸ List.length_replicate⟩
  count := by show 0 < frameBudget + 24; decide

/-- Settles O35: in both resets storage is written key by key, the controller is as loaded, and LY is 0. -/
theorem powerOnMeetsInvariant : Obligations.PowerOnMeetsInvariant := by
  unfold Obligations.PowerOnMeetsInvariant
  intro h s hp
  obtain ⟨cart, hload, ⟨-, rfl⟩ | ⟨boot, -, rfl⟩⟩ := powerOn_eq_ok hp
  · exact State.built_inv h _ (Memory.wf_loaded (Memory.wf_postBoot _) h cart) (Cart.load_legal hload) rfl
  · exact State.built_inv h _ (Memory.wf_writeRun (Memory.wf_loaded (Memory.wf_bootRom _) h cart) bootKey 0 boot)
      (Cart.load_legal hload) rfl

/-! ### The storage of the boot-ROM reset -/

/-- Every published byte lies in the I/O block, so the list of them gives every unlisted byte. -/
theorem Memory.unlisted_eq_find (k : Nat) : Memory.unlisted k = Memory.find 0 publishedIo k := by
  have hio : ∀ c ∈ publishedIo, 0xFF00 ≤ c.1 := by decide
  unfold Memory.unlisted
  split
  next hk => exact (Memory.find_of_ne fun c hc => by have := hio c hc; omega).symm
  next => rfl

theorem Memory.read_foldr_clear {k : Nat} (cs : List Host.Cell) (m : Memory) (h : m.read k = Memory.find 0 cs k) :
    Memory.read (cs.foldr (fun c m => m.write c.1 0) m) k = 0 := by
  induction cs with
  | nil => exact h
  | cons c cs ih =>
    rw [List.foldr_cons, Memory.read_write]
    split
    next => rfl
    next hk => exact ih (h.trans (if_neg (Ne.symm hk)))

/-- Of the listed bytes whose keys are admitted, the first for a key is what it reads. -/
theorem Memory.read_foldr_write {p : Nat → Bool} {k : Nat} (hk : p k = true) (cs : List Host.Cell) (m : Memory) :
    Memory.read (cs.foldr (fun c m => if p c.1 then m.write c.1 c.2 else m) m) k = Memory.find (m.read k) cs k := by
  induction cs with
  | nil => rfl
  | cons c cs ih =>
    rw [List.foldr_cons, Memory.find]
    by_cases hc : c.1 = k
    · rw [if_pos hc, hc, if_pos hk, Memory.read_write_self]
    · rw [if_neg hc, ← ih]
      exact Memory.read_writeIf _ c.2 fun _ => Ne.symm hc

/-- After the boot-ROM reset the RAM arrays and the I/O block hold `InitialRam`, the published bytes being cleared
(spec/70_reset_and_hazards.md R451). -/
theorem Memory.read_bootRom (cs : List Host.Cell) {k : Nat} (h : isRamArray k = true ∨ isIoBlock k = true) :
    (Memory.bootRom cs).read k = Memory.find 0 cs k := by
  have hclear := Memory.read_foldr_clear publishedIo [] (Memory.unlisted_eq_find k)
  refine (Memory.read_foldr_write (p := fun k => isRamArray k || isIoBlock k) (Bool.or_eq_true_iff.mpr h) cs _).trans ?_
  rw [hclear]

/-- The save file fills the cartridge RAM only, which lies above the bus's own arrays and the boot ROM. -/
theorem Memory.read_loadSave_below (m : Memory) (cart : Cart) (save : Option (List Byte)) {k : Nat} (hk : k < 0x20000) :
    (m.loadSave cart save).read k = m.read k := by
  unfold Memory.loadSave
  split
  next bs =>
    split
    next => exact Memory.read_writeRun_of_ne ramKey _ m 0 fun j _ => by unfold ramKey; omega
    next => rfl
  next => rfl

theorem Memory.read_loaded_below (m : Memory) (h : Supply) (cart : Cart) {k : Nat} (hk : k < 0x20000) :
    (m.loaded h cart).read k = m.read k :=
  (Memory.read_loadSave_below _ cart h.saveRam hk).trans (m.read_loadRom_below _ (by omega))

/-- Loading the cartridge, the save file and the boot ROM leaves the bus's own arrays alone. -/
theorem Memory.read_bootStorage_below (m : Memory) (h : Supply) (cart : Cart) (boot : List Byte) {k : Nat}
    (hk : k < 0x10000) : ((m.loaded h cart).writeRun bootKey 0 boot).read k = m.read k := by
  rw [Memory.read_writeRun_of_ne bootKey boot _ 0 fun j _ => by unfold bootKey; omega,
    Memory.read_loaded_below m h cart (by omega)]

theorem Memory.read_writeRun_bootKey (m : Memory) (boot : List Byte) {i : Nat} (hi : i < boot.length) :
    (m.writeRun bootKey 0 boot).read (bootKey i) = boot.getD i 0 := by
  have h := Memory.read_writeRun (key := bootKey) (fun _ _ => Nat.add_left_cancel) boot m 0 i
  rw [Nat.zero_add] at h
  rw [h, List.getD_eq_getElem?_getD, List.getElem?_eq_getElem hi]
  rfl

/-- A boot ROM of 256 bytes is taken as it is. -/
theorem BootRom.bytes_image {boot : List Byte} (h : boot.length = 256) : (BootRom.image boot).bytes = some boot :=
  congrArg some (List.take_left' h)

/-! ### The two resets, element by element -/

/-- The named registers that read 0 after the boot-ROM reset: all but P1, STAT and BOOT, whose reads have bits of their
own. -/
def NamedReg.zeroed : List NamedReg :=
  [.div, .ifr, .lcdc, .scy, .scx, .ly, .lyc, .dma, .bgp, .obp0, .obp1, .wy, .wx, .ie]

theorem Bus.namedRead_bootRom (m : Memory) (cart : Cart) {r : NamedReg} (h : r ∈ NamedReg.zeroed) :
    (Bus.bootRom m cart).namedRead r = 0 := by
  cases r
  case p1 | stat | boot => exact absurd h (by decide)
  all_goals rfl

theorem Bus.read_bootRom_eq_zero (echo : Bool) (m : Memory) (cart : Cart) {l : List Word}
    (hl : l.map BitVec.toNat = NamedReg.zeroed.map NamedReg.addr) : ∀ a ∈ l, (Bus.bootRom m cart).read echo a = 0 := by
  intro a ha
  obtain ⟨r, hr, haddr⟩ := List.mem_map.mp (hl ▸ List.mem_map_of_mem ha)
  exact (Bus.read_named echo _ a haddr.symm).trans (Bus.namedRead_bootRom m cart hr)

theorem Bus.namedRead_bootRom_stat (m : Memory) (cart : Cart) : (Bus.bootRom m cart).namedRead .stat = 0x80 :=
  show 1#1 ++ 0#7 = 0x80 by decide

/-- LCDC is 0 after the boot-ROM reset, so the first PPU step freezes the PPU (spec/60_exceptions.md R382). -/
theorem State.ppuStep_bootRom (h : Supply) (m : Memory) (cart : Cart) (c : Nat) :
    ((State.built h Cpu.bootRom (.bootRom m cart)).ppuStep c).ppu = { Ppu.initial with mode := .hblank } := by
  have hoff : bitOf (State.built h Cpu.bootRom (.bootRom m cart)).bus.lcdc 7 = false := show bitOf 0 7 = false from rfl
  exact congrArg State.ppu (lcdOffFreezesThePpu.1 _ c hoff)

/-- Settles O59: the block is that of `powerOn_eq_ok` with the 256 supplied bytes; its storage is read by the laws
above, its named registers by `Bus.read_bootRom_eq_zero`, and everything else is a field of the reset. -/
theorem bootRomReset : Obligations.BootRomReset := by
  unfold Obligations.BootRomReset
  intro h s boot hboot hp
  have hbytes : h.bootRom.bytes = some boot ∧ boot.length = 256 := by
    rcases hboot with ⟨himage, hlen⟩ | ⟨hmissing, rfl⟩
    · exact ⟨himage ▸ BootRom.bytes_image hlen, hlen⟩
    · exact ⟨hmissing ▸ rfl, List.length_replicate⟩
  obtain ⟨hsome, hlen⟩ := hbytes
  obtain ⟨cart, hload, ⟨hnone, -⟩ | ⟨boot', hboot', rfl⟩⟩ := powerOn_eq_ok hp
  · exact nomatch hnone.symm.trans hsome
  obtain rfl : boot = boot' := Option.some.inj (hsome.symm.trans hboot')
  obtain ⟨hromBank, hramBank, henabled⟩ := Cart.load_registers hload
  refine ⟨fun r => ?registers, rfl, rfl, rfl, rfl, rfl, rfl, ?named, rfl, ?stat, rfl, rfl, rfl, rfl, rfl, hromBank,
    hramBank, henabled, fun k hk => ?arrays, fun a ha => ?overlay, fun c => ?frozen⟩
  case registers => cases r <;> rfl
  case named => exact Bus.read_bootRom_eq_zero _ _ cart rfl
  case stat => exact (State.read_named _ .stat (a := 0xFF41) rfl).trans (Bus.namedRead_bootRom_stat _ cart)
  case arrays =>
    exact (Memory.read_bootStorage_below _ h cart boot (hk.elim isRamArray_lt isIoBlock_lt)).trans
      (Memory.read_bootRom _ hk)
  case overlay =>
    exact (Bus.read_overlay _ _ a rfl ha).trans (Memory.read_writeRun_bootKey _ boot (hlen ▸ ha))
  case frozen => exact State.ppuStep_bootRom h _ cart c

/-- Settles O58: the reset state is a literal, whose fields and reads are evaluated; its storage lists nothing, and what
is unlisted outside the I/O block reads 0. -/
theorem resetValues : Obligations.ResetValues := by
  unfold Obligations.ResetValues
  refine ⟨by decide, by decide, by decide, by decide, fun k hk => ?arrays, by decide,
    ⟨rfl, rfl, rfl, rfl, rfl, rfl⟩, rfl, rfl, rfl⟩
  case arrays => exact hk.elim Memory.unlisted_of_lt Memory.unlisted_of_ge

end Sys2Proof.Machine
